-- ==== Sys2Proof/Word.lean ====
section
/-! DEFINITION. The word types of the Z80 core (00_scope.md R5): data bytes of 8 bits, addresses, register
pairs and port numbers of 16 bits. -/

namespace Sys2Proof

/-- An 8-bit register, a memory byte, an instruction byte (R5). -/
abbrev Byte := BitVec 8

/-- A 16-bit register pair, address, SP, PC, IX, IY or port number (R5). -/
abbrev Word := BitVec 16

end Sys2Proof
end

