-- ==== Sys2Proof/Machine/Bits.lean ====
section
/-! DEFINITION. Bit fields, byte order and sign extension (00_scope.md R7, 30_encoding.md R76). -/

namespace Sys2Proof

/-- `v[15:8]` (R7). -/
def hiByte (w : Word) : Byte := w.extractLsb' 8 8

/-- `v[7:0]` (R7). -/
def loByte (w : Word) : Byte := w.extractLsb' 0 8

/-- `{hi, lo}` (R7): `hi` in bits 15:8. -/
def wordOf (hi lo : Byte) : Word := hi ++ lo

/-- `trunc_16(base + sext_8(d))` (R7): the signed offset of a displacement or of a relative jump, which wraps
(30_encoding.md R75, 10_state.md R31). -/
def addOffset (base : Word) (d : Byte) : Word := BitVec.ofInt 16 ((base.toNat : Int) + d.toInt)

/-- The 16 KiB bank `addr[15:14]` of an address (20_memory.md R54). -/
def bankOf (a : Word) : Fin 4 := Fin.ofNat 4 (a.toNat / 16384)

/-- x = op[7:6] (R76). -/
def opX (op : Byte) : Fin 4 := Fin.ofNat 4 (op.toNat / 64)

/-- y = op[5:3] (R76). -/
def opY (op : Byte) : Fin 8 := Fin.ofNat 8 (op.toNat / 8)

/-- z = op[2:0] (R76). -/
def opZ (op : Byte) : Fin 8 := Fin.ofNat 8 op.toNat

/-- p = op[5:4] (R76). -/
def opP (op : Byte) : Fin 4 := Fin.ofNat 4 (op.toNat / 16)

/-- q = op[3] (R76). -/
def opQ (op : Byte) : Bool := op.getLsbD 3

/-- The operation byte with the fields x, y, z (R76). -/
def opByte (x : Fin 4) (y z : Fin 8) : Byte := BitVec.ofNat 8 (64 * x.val + 8 * y.val + z.val)

/-- The operation byte with the fields x, p, q, z (R76). -/
def opByteP (x p : Fin 4) (q : Bool) (z : Fin 8) : Byte :=
  BitVec.ofNat 8 (64 * x.val + 16 * p.val + 8 * q.toNat + z.val)

end Sys2Proof
end

