-- ==== Sys2Proof/Syntax.lean ====
section
/-! DEFINITION. The instructions: one constructor per mnemonic of spec/opcode_table.json, with the operands of 30_encoding.md R91 (immediates and displacements as the raw bytes read). -/

namespace Sys2Proof

/-- An 8-bit register of the r-table (30_encoding.md R77); field value 6 is the memory operand and names none. -/
inductive Reg8 where
  | b | c | d | e | h | l | a
  deriving DecidableEq, Repr

/-- An 8-bit register of the Indexed r-table (R77, R79): the halves of XY stand in place of H and L. -/
inductive RegX where
  | b | c | d | e | xyh | xyl | a
  deriving DecidableEq, Repr

/-- A register pair of the rp-table (R78). -/
inductive Pair where
  | bc | de | hl | sp
  deriving DecidableEq, Repr

/-- A register pair of the rp2-table (R78), for PUSH and POP. -/
inductive PairQ where
  | bc | de | hl | af
  deriving DecidableEq, Repr

/-- A register pair of the Indexed rp-table (R78), for ADD XY,pp. -/
inductive PairX where
  | bc | de | xy | sp
  deriving DecidableEq, Repr

/-- A condition of the cc-table (R80). -/
inductive Cond where
  | nz | z | nc | c | po | pe | p | m
  deriving DecidableEq, Repr

/-- The active index register XY of an indexed instruction (10_state.md R25). -/
inductive IdxReg where
  | ix | iy
  deriving DecidableEq, Repr

/-- The eight accumulator operations of the alu-table (R81). -/
inductive AluOp where
  | add | adc | sub | sbc | and | xor | or | cp
  deriving DecidableEq, Repr

/-- The eight rotates and shifts of the rot-table (R82). -/
inductive RotOp where
  | rlc | rrc | rl | rr | sla | sra | sls | srl
  deriving DecidableEq, Repr

/-- The instructions of the five decode contexts. -/
inductive Instr where
  -- Rows with operands, in the table's order (first, since a compiled constructor with fields has a bounded tag).
  /-- `LD dd,nn` (R170). -/
  | ldDdNn (dd : Pair) (nn : Word)
  /-- `INC ss` (R234). -/
  | incSs (ss : Pair)
  /-- `INC r` (R209). -/
  | incR (r : Reg8)
  /-- `DEC r` (R213). -/
  | decR (r : Reg8)
  /-- `LD r,n` (R141). -/
  | ldRN (r : Reg8) (n : Byte)
  /-- `LD (HL),n` (R144). -/
  | ldMemHlN (n : Byte)
  /-- `ADD HL,ss` (R230). -/
  | addHlSs (ss : Pair)
  /-- `DEC ss` (R236). -/
  | decSs (ss : Pair)
  /-- `DJNZ e` (R276). -/
  | djnzE (e : Byte)
  /-- `JR e` (R272). -/
  | jrE (e : Byte)
  /-- `JR cc,e` (R273). -/
  | jrCcE (cc : Cond) (e : Byte)
  /-- `LD (nn),HL` (R175). -/
  | ldMemNnHl (nn : Word)
  /-- `LD HL,(nn)` (R172). -/
  | ldHlMemNn (nn : Word)
  /-- `LD (nn),A` (R148). -/
  | ldMemNnA (nn : Word)
  /-- `LD A,(nn)` (R147). -/
  | ldAMemNn (nn : Word)
  /-- `LD r,r'` (R140). -/
  | ldRR (r : Reg8) (r' : Reg8)
  /-- `LD r,(HL)` (R142). -/
  | ldRMemHl (r : Reg8)
  /-- `LD (HL),r` (R143). -/
  | ldMemHlR (r : Reg8)
  /-- `ADD A,r` (R201). -/
  | addAR (r : Reg8)
  /-- `ADD A,n` (R201). -/
  | addAN (n : Byte)
  /-- `ADC A,r` (R202). -/
  | adcAR (r : Reg8)
  /-- `ADC A,n` (R202). -/
  | adcAN (n : Byte)
  /-- `SUB r` (R203). -/
  | subR (r : Reg8)
  /-- `SUB n` (R203). -/
  | subN (n : Byte)
  /-- `SBC A,r` (R204). -/
  | sbcAR (r : Reg8)
  /-- `SBC A,n` (R204). -/
  | sbcAN (n : Byte)
  /-- `AND r` (R205). -/
  | andR (r : Reg8)
  /-- `AND n` (R205). -/
  | andN (n : Byte)
  /-- `XOR r` (R206). -/
  | xorR (r : Reg8)
  /-- `XOR n` (R206). -/
  | xorN (n : Byte)
  /-- `OR r` (R207). -/
  | orR (r : Reg8)
  /-- `OR n` (R207). -/
  | orN (n : Byte)
  /-- `CP r` (R208). -/
  | cpR (r : Reg8)
  /-- `CP n` (R208). -/
  | cpN (n : Byte)
  /-- `RET cc` (R280). -/
  | retCc (cc : Cond)
  /-- `POP qq` (R182). -/
  | popQq (qq : PairQ)
  /-- `JP cc,nn` (R271). -/
  | jpCcNn (cc : Cond) (nn : Word)
  /-- `JP nn` (R270). -/
  | jpNn (nn : Word)
  /-- `CALL cc,nn` (R278). -/
  | callCcNn (cc : Cond) (nn : Word)
  /-- `PUSH qq` (R180). -/
  | pushQq (qq : PairQ)
  /-- `RST p` (R281). -/
  | rstP (p : Byte)
  /-- `CALL nn` (R277). -/
  | callNn (nn : Word)
  /-- `OUT (n),A` (R328). -/
  | outPortNA (n : Byte)
  /-- `IN A,(n)` (R325). -/
  | inAPortN (n : Byte)
  /-- `RLC r` (R250). -/
  | rlcR (r : Reg8)
  /-- `RRC r` (R251). -/
  | rrcR (r : Reg8)
  /-- `RL r` (R252). -/
  | rlR (r : Reg8)
  /-- `RR r` (R253). -/
  | rrR (r : Reg8)
  /-- `SLA r` (R254). -/
  | slaR (r : Reg8)
  /-- `SRA r` (R255). -/
  | sraR (r : Reg8)
  /-- `SLS r` (R256). -/
  | slsR (r : Reg8)
  /-- `SRL r` (R257). -/
  | srlR (r : Reg8)
  /-- `BIT b,r` (R258). -/
  | bitBR (b : Fin 8) (r : Reg8)
  /-- `BIT b,(HL)` (R258). -/
  | bitBMemHl (b : Fin 8)
  /-- `RES b,r` (R260). -/
  | resBR (b : Fin 8) (r : Reg8)
  /-- `RES b,(HL)` (R260). -/
  | resBMemHl (b : Fin 8)
  /-- `SET b,r` (R259). -/
  | setBR (b : Fin 8) (r : Reg8)
  /-- `SET b,(HL)` (R259). -/
  | setBMemHl (b : Fin 8)
  /-- `IN r,(C)` (R326). -/
  | inRPortC (r : Reg8)
  /-- `OUT (C),r` (R329). -/
  | outPortCR (r : Reg8)
  /-- `SBC HL,ss` (R233). -/
  | sbcHlSs (ss : Pair)
  /-- `ADC HL,ss` (R232). -/
  | adcHlSs (ss : Pair)
  /-- `LD (nn),dd` (R176). -/
  | ldMemNnDd (nn : Word) (dd : Pair)
  /-- `LD dd,(nn)` (R173). -/
  | ldDdMemNn (dd : Pair) (nn : Word)
  /-- `ED NOP` (R336). -/
  | edNop (op : Byte)
  /-- `ADD IX,pp` (R231). -/
  | addIxPp (pp : PairX)
  /-- `LD IX,nn` (R171). -/
  | ldIxNn (nn : Word)
  /-- `LD (nn),IX` (R177). -/
  | ldMemNnIx (nn : Word)
  /-- `LD IX,(nn)` (R174). -/
  | ldIxMemNn (nn : Word)
  /-- `LD IXH,n` (R150). -/
  | ldIxhN (n : Byte)
  /-- `LD IXL,n` (R150). -/
  | ldIxlN (n : Byte)
  /-- `INC (IX+d)` (R212). -/
  | incMemIxd (d : Byte)
  /-- `DEC (IX+d)` (R216). -/
  | decMemIxd (d : Byte)
  /-- `LD (IX+d),n` (R153). -/
  | ldMemIxdN (d : Byte) (n : Byte)
  /-- `LD IXH,r'` (R149). -/
  | ldIxhR (r : RegX)
  /-- `LD IXL,r'` (R149). -/
  | ldIxlR (r : RegX)
  /-- `LD r,IXH` (R149). -/
  | ldRIxh (r : Reg8)
  /-- `LD r,IXL` (R149). -/
  | ldRIxl (r : Reg8)
  /-- `LD r,(IX+d)` (R151). -/
  | ldRMemIxd (r : Reg8) (d : Byte)
  /-- `LD (IX+d),r` (R152). -/
  | ldMemIxdR (d : Byte) (r : Reg8)
  /-- `ADD A,(IX+d)` (R201). -/
  | addAMemIxd (d : Byte)
  /-- `ADC A,(IX+d)` (R202). -/
  | adcAMemIxd (d : Byte)
  /-- `SUB (IX+d)` (R203). -/
  | subMemIxd (d : Byte)
  /-- `SBC A,(IX+d)` (R204). -/
  | sbcAMemIxd (d : Byte)
  /-- `AND (IX+d)` (R205). -/
  | andMemIxd (d : Byte)
  /-- `XOR (IX+d)` (R206). -/
  | xorMemIxd (d : Byte)
  /-- `OR (IX+d)` (R207). -/
  | orMemIxd (d : Byte)
  /-- `CP (IX+d)` (R208). -/
  | cpMemIxd (d : Byte)
  /-- `ADD IY,pp` (R231). -/
  | addIyPp (pp : PairX)
  /-- `LD IY,nn` (R171). -/
  | ldIyNn (nn : Word)
  /-- `LD (nn),IY` (R177). -/
  | ldMemNnIy (nn : Word)
  /-- `LD IY,(nn)` (R174). -/
  | ldIyMemNn (nn : Word)
  /-- `LD IYH,n` (R150). -/
  | ldIyhN (n : Byte)
  /-- `LD IYL,n` (R150). -/
  | ldIylN (n : Byte)
  /-- `INC (IY+d)` (R212). -/
  | incMemIyd (d : Byte)
  /-- `DEC (IY+d)` (R216). -/
  | decMemIyd (d : Byte)
  /-- `LD (IY+d),n` (R153). -/
  | ldMemIydN (d : Byte) (n : Byte)
  /-- `LD IYH,r'` (R149). -/
  | ldIyhR (r : RegX)
  /-- `LD IYL,r'` (R149). -/
  | ldIylR (r : RegX)
  /-- `LD r,IYH` (R149). -/
  | ldRIyh (r : Reg8)
  /-- `LD r,IYL` (R149). -/
  | ldRIyl (r : Reg8)
  /-- `LD r,(IY+d)` (R151). -/
  | ldRMemIyd (r : Reg8) (d : Byte)
  /-- `LD (IY+d),r` (R152). -/
  | ldMemIydR (d : Byte) (r : Reg8)
  /-- `ADD A,(IY+d)` (R201). -/
  | addAMemIyd (d : Byte)
  /-- `ADC A,(IY+d)` (R202). -/
  | adcAMemIyd (d : Byte)
  /-- `SUB (IY+d)` (R203). -/
  | subMemIyd (d : Byte)
  /-- `SBC A,(IY+d)` (R204). -/
  | sbcAMemIyd (d : Byte)
  /-- `AND (IY+d)` (R205). -/
  | andMemIyd (d : Byte)
  /-- `XOR (IY+d)` (R206). -/
  | xorMemIyd (d : Byte)
  /-- `OR (IY+d)` (R207). -/
  | orMemIyd (d : Byte)
  /-- `CP (IY+d)` (R208). -/
  | cpMemIyd (d : Byte)
  /-- `RLC (IX+d)` (R262). -/
  | rlcMemIxd (d : Byte)
  /-- `RLC (IX+d),r` (R262). -/
  | rlcMemIxdR (d : Byte) (r : Reg8)
  /-- `RRC (IX+d)` (R262). -/
  | rrcMemIxd (d : Byte)
  /-- `RRC (IX+d),r` (R262). -/
  | rrcMemIxdR (d : Byte) (r : Reg8)
  /-- `RL (IX+d)` (R262). -/
  | rlMemIxd (d : Byte)
  /-- `RL (IX+d),r` (R262). -/
  | rlMemIxdR (d : Byte) (r : Reg8)
  /-- `RR (IX+d)` (R262). -/
  | rrMemIxd (d : Byte)
  /-- `RR (IX+d),r` (R262). -/
  | rrMemIxdR (d : Byte) (r : Reg8)
  /-- `SLA (IX+d)` (R262). -/
  | slaMemIxd (d : Byte)
  /-- `SLA (IX+d),r` (R262). -/
  | slaMemIxdR (d : Byte) (r : Reg8)
  /-- `SRA (IX+d)` (R262). -/
  | sraMemIxd (d : Byte)
  /-- `SRA (IX+d),r` (R262). -/
  | sraMemIxdR (d : Byte) (r : Reg8)
  /-- `SLS (IX+d)` (R262). -/
  | slsMemIxd (d : Byte)
  /-- `SLS (IX+d),r` (R262). -/
  | slsMemIxdR (d : Byte) (r : Reg8)
  /-- `SRL (IX+d)` (R262). -/
  | srlMemIxd (d : Byte)
  /-- `SRL (IX+d),r` (R262). -/
  | srlMemIxdR (d : Byte) (r : Reg8)
  /-- `BIT b,(IX+d)` (R263). -/
  | bitBMemIxd (b : Fin 8) (d : Byte)
  /-- `RES b,(IX+d)` (R264). -/
  | resBMemIxd (b : Fin 8) (d : Byte)
  /-- `RES b,(IX+d),r` (R264). -/
  | resBMemIxdR (b : Fin 8) (d : Byte) (r : Reg8)
  /-- `SET b,(IX+d)` (R265). -/
  | setBMemIxd (b : Fin 8) (d : Byte)
  /-- `SET b,(IX+d),r` (R265). -/
  | setBMemIxdR (b : Fin 8) (d : Byte) (r : Reg8)
  /-- `RLC (IY+d)` (R262). -/
  | rlcMemIyd (d : Byte)
  /-- `RLC (IY+d),r` (R262). -/
  | rlcMemIydR (d : Byte) (r : Reg8)
  /-- `RRC (IY+d)` (R262). -/
  | rrcMemIyd (d : Byte)
  /-- `RRC (IY+d),r` (R262). -/
  | rrcMemIydR (d : Byte) (r : Reg8)
  /-- `RL (IY+d)` (R262). -/
  | rlMemIyd (d : Byte)
  /-- `RL (IY+d),r` (R262). -/
  | rlMemIydR (d : Byte) (r : Reg8)
  /-- `RR (IY+d)` (R262). -/
  | rrMemIyd (d : Byte)
  /-- `RR (IY+d),r` (R262). -/
  | rrMemIydR (d : Byte) (r : Reg8)
  /-- `SLA (IY+d)` (R262). -/
  | slaMemIyd (d : Byte)
  /-- `SLA (IY+d),r` (R262). -/
  | slaMemIydR (d : Byte) (r : Reg8)
  /-- `SRA (IY+d)` (R262). -/
  | sraMemIyd (d : Byte)
  /-- `SRA (IY+d),r` (R262). -/
  | sraMemIydR (d : Byte) (r : Reg8)
  /-- `SLS (IY+d)` (R262). -/
  | slsMemIyd (d : Byte)
  /-- `SLS (IY+d),r` (R262). -/
  | slsMemIydR (d : Byte) (r : Reg8)
  /-- `SRL (IY+d)` (R262). -/
  | srlMemIyd (d : Byte)
  /-- `SRL (IY+d),r` (R262). -/
  | srlMemIydR (d : Byte) (r : Reg8)
  /-- `BIT b,(IY+d)` (R263). -/
  | bitBMemIyd (b : Fin 8) (d : Byte)
  /-- `RES b,(IY+d)` (R264). -/
  | resBMemIyd (b : Fin 8) (d : Byte)
  /-- `RES b,(IY+d),r` (R264). -/
  | resBMemIydR (b : Fin 8) (d : Byte) (r : Reg8)
  /-- `SET b,(IY+d)` (R265). -/
  | setBMemIyd (b : Fin 8) (d : Byte)
  /-- `SET b,(IY+d),r` (R265). -/
  | setBMemIydR (b : Fin 8) (d : Byte) (r : Reg8)
  -- Rows without operands, in the table's order.
  /-- `NOP` (R331). -/
  | nop
  /-- `LD (BC),A` (R146). -/
  | ldMemBcA
  /-- `LD (DE),A` (R146). -/
  | ldMemDeA
  /-- `INC (HL)` (R210). -/
  | incMemHl
  /-- `DEC (HL)` (R214). -/
  | decMemHl
  /-- `RLCA` (R245). -/
  | rlca
  /-- `RRCA` (R246). -/
  | rrca
  /-- `RLA` (R247). -/
  | rla
  /-- `RRA` (R248). -/
  | rra
  /-- `EX AF,AF'` (R185). -/
  | exAfAf
  /-- `LD A,(BC)` (R145). -/
  | ldAMemBc
  /-- `LD A,(DE)` (R145). -/
  | ldAMemDe
  /-- `DAA` (R217). -/
  | daa
  /-- `CPL` (R218). -/
  | cpl
  /-- `SCF` (R221). -/
  | scf
  /-- `CCF` (R220). -/
  | ccf
  /-- `HALT` (R332). -/
  | halt
  /-- `ADD A,(HL)` (R201). -/
  | addAMemHl
  /-- `ADC A,(HL)` (R202). -/
  | adcAMemHl
  /-- `SUB (HL)` (R203). -/
  | subMemHl
  /-- `SBC A,(HL)` (R204). -/
  | sbcAMemHl
  /-- `AND (HL)` (R205). -/
  | andMemHl
  /-- `XOR (HL)` (R206). -/
  | xorMemHl
  /-- `OR (HL)` (R207). -/
  | orMemHl
  /-- `CP (HL)` (R208). -/
  | cpMemHl
  /-- `RET` (R279). -/
  | ret
  /-- `EXX` (R186). -/
  | exx
  /-- `EX (SP),HL` (R187). -/
  | exMemSpHl
  /-- `JP (HL)` (R274). -/
  | jpHl
  /-- `EX DE,HL` (R184). -/
  | exDeHl
  /-- `DI` (R333). -/
  | di
  /-- `EI` (R334). -/
  | ei
  /-- `LD SP,HL` (R178). -/
  | ldSpHl
  /-- `prefix CB (enter Bit-ops context)` (R71). -/
  | prefixCb
  /-- `prefix ED (enter Extended context)` (R71). -/
  | prefixEd
  /-- `prefix DD (enter Indexed context, XY=IX)` (R71). -/
  | prefixDd
  /-- `prefix FD (enter Indexed context, XY=IY)` (R71). -/
  | prefixFd
  /-- `RLC (HL)` (R250). -/
  | rlcMemHl
  /-- `RRC (HL)` (R251). -/
  | rrcMemHl
  /-- `RL (HL)` (R252). -/
  | rlMemHl
  /-- `RR (HL)` (R253). -/
  | rrMemHl
  /-- `SLA (HL)` (R254). -/
  | slaMemHl
  /-- `SRA (HL)` (R255). -/
  | sraMemHl
  /-- `SLS (HL)` (R256). -/
  | slsMemHl
  /-- `SRL (HL)` (R257). -/
  | srlMemHl
  /-- `IN (C)` (R327). -/
  | inPortC
  /-- `OUT (C),0` (R330). -/
  | outPortCZero
  /-- `NEG` (R219). -/
  | neg
  /-- `RETN` (R282). -/
  | retn
  /-- `RETI` (R283). -/
  | reti
  /-- `IM 0` (R335). -/
  | im0
  /-- `IM 1` (R335). -/
  | im1
  /-- `IM 2` (R335). -/
  | im2
  /-- `LD I,A` (R156). -/
  | ldIA
  /-- `LD R,A` (R157). -/
  | ldRA
  /-- `LD A,I` (R154). -/
  | ldAI
  /-- `LD A,R` (R155). -/
  | ldAR
  /-- `RRD` (R267). -/
  | rrd
  /-- `RLD` (R266). -/
  | rld
  /-- `LDI` (R300). -/
  | ldi
  /-- `CPI` (R302). -/
  | cpi
  /-- `INI` (R304). -/
  | ini
  /-- `OUTI` (R306). -/
  | outi
  /-- `LDD` (R301). -/
  | ldd
  /-- `CPD` (R303). -/
  | cpd
  /-- `IND` (R305). -/
  | ind
  /-- `OUTD` (R307). -/
  | outd
  /-- `LDIR` (R309). -/
  | ldir
  /-- `CPIR` (R311). -/
  | cpir
  /-- `INIR` (R313). -/
  | inir
  /-- `OTIR` (R315). -/
  | otir
  /-- `LDDR` (R310). -/
  | lddr
  /-- `CPDR` (R312). -/
  | cpdr
  /-- `INDR` (R314). -/
  | indr
  /-- `OTDR` (R316). -/
  | otdr
  /-- `INC IX` (R235). -/
  | incIx
  /-- `DEC IX` (R237). -/
  | decIx
  /-- `INC IXH` (R211). -/
  | incIxh
  /-- `INC IXL` (R211). -/
  | incIxl
  /-- `DEC IXH` (R215). -/
  | decIxh
  /-- `DEC IXL` (R215). -/
  | decIxl
  /-- `ADD A,IXH` (R201). -/
  | addAIxh
  /-- `ADD A,IXL` (R201). -/
  | addAIxl
  /-- `ADC A,IXH` (R202). -/
  | adcAIxh
  /-- `ADC A,IXL` (R202). -/
  | adcAIxl
  /-- `SUB IXH` (R203). -/
  | subIxh
  /-- `SUB IXL` (R203). -/
  | subIxl
  /-- `SBC A,IXH` (R204). -/
  | sbcAIxh
  /-- `SBC A,IXL` (R204). -/
  | sbcAIxl
  /-- `AND IXH` (R205). -/
  | andIxh
  /-- `AND IXL` (R205). -/
  | andIxl
  /-- `XOR IXH` (R206). -/
  | xorIxh
  /-- `XOR IXL` (R206). -/
  | xorIxl
  /-- `OR IXH` (R207). -/
  | orIxh
  /-- `OR IXL` (R207). -/
  | orIxl
  /-- `CP IXH` (R208). -/
  | cpIxh
  /-- `CP IXL` (R208). -/
  | cpIxl
  /-- `POP IX` (R183). -/
  | popIx
  /-- `EX (SP),IX` (R188). -/
  | exMemSpIx
  /-- `PUSH IX` (R181). -/
  | pushIx
  /-- `JP (IX)` (R275). -/
  | jpIx
  /-- `LD SP,IX` (R179). -/
  | ldSpIx
  /-- `prefix 0xDD CB (enter Indexed-bit-ops context)` (R71). -/
  | prefixDdCb
  /-- `0xDD prefix alone (no indexed form: 4-cycle no-op, next byte decoded afresh)` (R337). -/
  | lonePrefixDd
  /-- `INC IY` (R235). -/
  | incIy
  /-- `DEC IY` (R237). -/
  | decIy
  /-- `INC IYH` (R211). -/
  | incIyh
  /-- `INC IYL` (R211). -/
  | incIyl
  /-- `DEC IYH` (R215). -/
  | decIyh
  /-- `DEC IYL` (R215). -/
  | decIyl
  /-- `ADD A,IYH` (R201). -/
  | addAIyh
  /-- `ADD A,IYL` (R201). -/
  | addAIyl
  /-- `ADC A,IYH` (R202). -/
  | adcAIyh
  /-- `ADC A,IYL` (R202). -/
  | adcAIyl
  /-- `SUB IYH` (R203). -/
  | subIyh
  /-- `SUB IYL` (R203). -/
  | subIyl
  /-- `SBC A,IYH` (R204). -/
  | sbcAIyh
  /-- `SBC A,IYL` (R204). -/
  | sbcAIyl
  /-- `AND IYH` (R205). -/
  | andIyh
  /-- `AND IYL` (R205). -/
  | andIyl
  /-- `XOR IYH` (R206). -/
  | xorIyh
  /-- `XOR IYL` (R206). -/
  | xorIyl
  /-- `OR IYH` (R207). -/
  | orIyh
  /-- `OR IYL` (R207). -/
  | orIyl
  /-- `CP IYH` (R208). -/
  | cpIyh
  /-- `CP IYL` (R208). -/
  | cpIyl
  /-- `POP IY` (R183). -/
  | popIy
  /-- `EX (SP),IY` (R188). -/
  | exMemSpIy
  /-- `PUSH IY` (R181). -/
  | pushIy
  /-- `JP (IY)` (R275). -/
  | jpIy
  /-- `LD SP,IY` (R179). -/
  | ldSpIy
  /-- `prefix 0xFD CB (enter Indexed-bit-ops context)` (R71). -/
  | prefixFdCb
  /-- `0xFD prefix alone (no indexed form: 4-cycle no-op, next byte decoded afresh)` (R337). -/
  | lonePrefixFd
  deriving DecidableEq, Repr

end Sys2Proof
end

