-- ==== Sys2Proof/Machine/Flags.lean ====
section
/-! DEFINITION. The flag byte (10_state.md R27) and the arithmetic, logic, shift and rotate primitives with the
flags each one writes (40_alu.md). Each primitive computes on unbounded integers and truncates to its width
(R100); a flag it does not name keeps its value (R102). -/

namespace Sys2Proof.Machine

/-- The eight flags by name (R27). -/
structure Flags where
  s : Bool
  z : Bool
  f5 : Bool
  h : Bool
  f3 : Bool
  pv : Bool
  n : Bool
  c : Bool
  deriving DecidableEq, Repr

/-- The flag byte: S Z F5 H F3 PV N C, bit 7 to bit 0 (R27, D1). -/
def Flags.toByte (g : Flags) : Byte :=
  BitVec.ofNat 8 (128 * g.s.toNat + 64 * g.z.toNat + 32 * g.f5.toNat + 16 * g.h.toNat + 8 * g.f3.toNat +
    4 * g.pv.toNat + 2 * g.n.toNat + g.c.toNat)

/-- The names of the bits of a flag byte (R27, R28). -/
def Flags.ofByte (f : Byte) : Flags :=
  { s := f.getLsbD 7, z := f.getLsbD 6, f5 := f.getLsbD 5, h := f.getLsbD 4, f3 := f.getLsbD 3,
    pv := f.getLsbD 2, n := f.getLsbD 1, c := f.getLsbD 0 }

/-- `SZ53(r)` (R101): the flags that mirror an 8-bit result. -/
def Flags.sz53 (g : Flags) (r : Byte) : Flags :=
  { g with s := r.getLsbD 7, z := r == 0, f5 := r.getLsbD 5, f3 := r.getLsbD 3 }

/-- The number of set bits of a byte. -/
def popCount (v : Byte) : Nat :=
  (v.getLsbD 0).toNat + (v.getLsbD 1).toNat + (v.getLsbD 2).toNat + (v.getLsbD 3).toNat +
  (v.getLsbD 4).toNat + (v.getLsbD 5).toNat + (v.getLsbD 6).toNat + (v.getLsbD 7).toNat

/-- `parity(v)` (R103): true when the number of set bits is even. -/
def parity (v : Byte) : Bool := popCount v % 2 == 0

/-! ## 8-bit add and subtract -/

/-- `add8(a, b, cin)` (R104). -/
def add8 (a b : Byte) (cin : Bool) : Byte × Flags :=
  let w := a.toNat + b.toNat + cin.toNat
  let r : Byte := BitVec.ofNat 8 w
  (r, { s := r.getLsbD 7, z := r == 0, f5 := r.getLsbD 5, f3 := r.getLsbD 3,
        h := decide (a.toNat % 16 + b.toNat % 16 + cin.toNat > 0xF),
        pv := (a.getLsbD 7 == b.getLsbD 7) && (r.getLsbD 7 != a.getLsbD 7),
        n := false,
        c := decide (w > 0xFF) })

/-- `sub8(a, b, cin)` (R105): a − b − cin. -/
def sub8 (a b : Byte) (cin : Bool) : Byte × Flags :=
  let w : Int := a.toNat - b.toNat - cin.toNat
  let r : Byte := BitVec.ofInt 8 w
  (r, { s := r.getLsbD 7, z := r == 0, f5 := r.getLsbD 5, f3 := r.getLsbD 3,
        h := decide (((a.toNat % 16 : Nat) : Int) - (b.toNat % 16 : Nat) - cin.toNat < 0),
        pv := (a.getLsbD 7 != b.getLsbD 7) && (r.getLsbD 7 == b.getLsbD 7),
        n := true,
        c := decide (w < 0) })

/-- `cp8(a, b)` (R106): the flags of `sub8(a, b, 0)`. -/
def cp8 (a b : Byte) : Flags := (sub8 a b false).2

/-- `inc8(v)` (R107); C is unchanged. -/
def inc8 (v : Byte) (g : Flags) : Byte × Flags :=
  let r : Byte := BitVec.ofNat 8 (v.toNat + 1)
  (r, { g.sz53 r with h := v.toNat % 16 == 0xF, pv := v == 0x7F, n := false })

/-- `dec8(v)` (R108); C is unchanged. -/
def dec8 (v : Byte) (g : Flags) : Byte × Flags :=
  let r : Byte := BitVec.ofInt 8 ((v.toNat : Int) - 1)
  (r, { g.sz53 r with h := v.toNat % 16 == 0x0, pv := v == 0x80, n := true })

/-! ## Logic -/

/-- The flags of a logic operation with result `r` (R109); `h` is 1 for AND, 0 for XOR and OR. -/
def logicFlags (h : Bool) (r : Byte) : Flags :=
  { s := r.getLsbD 7, z := r == 0, f5 := r.getLsbD 5, f3 := r.getLsbD 3, h := h, pv := parity r, n := false, c := false }

/-- `and8` (R109). -/
def and8 (a b : Byte) : Byte × Flags := (a &&& b, logicFlags true (a &&& b))

/-- `xor8` (R109). -/
def xor8 (a b : Byte) : Byte × Flags := (a ^^^ b, logicFlags false (a ^^^ b))

/-- `or8` (R109). -/
def or8 (a b : Byte) : Byte × Flags := (a ||| b, logicFlags false (a ||| b))

/-! ## Shift and rotate -/

/-- The result and the outgoing bit of a rotate or shift (R110); `cin` is F.C. -/
def rotResult (k : RotOp) (v : Byte) (cin : Bool) : Byte × Bool :=
  let left (low : Bool) : Byte := BitVec.ofNat 8 (v.toNat * 2 + low.toNat)
  let right (high : Bool) : Byte := BitVec.ofNat 8 (v.toNat / 2 + 128 * high.toNat)
  match k with
  | .rlc => (left (v.getLsbD 7), v.getLsbD 7)
  | .rrc => (right (v.getLsbD 0), v.getLsbD 0)
  | .rl => (left cin, v.getLsbD 7)
  | .rr => (right cin, v.getLsbD 0)
  | .sla => (left false, v.getLsbD 7)
  | .sra => (right (v.getLsbD 7), v.getLsbD 0)
  | .sls => (left true, v.getLsbD 7)
  | .srl => (right false, v.getLsbD 0)

/-- `rot8(k, v)` (R110): the CB rotates and shifts. -/
def rot8 (k : RotOp) (v : Byte) (cin : Bool) : Byte × Flags :=
  let r := (rotResult k v cin).1
  (r, { s := r.getLsbD 7, z := r == 0, f5 := r.getLsbD 5, f3 := r.getLsbD 3, h := false, pv := parity r, n := false,
        c := (rotResult k v cin).2 })

/-- `rota8(k, A)` (R111): the accumulator rotates; S, Z and PV are unchanged. -/
def rota8 (k : RotOp) (v : Byte) (g : Flags) : Byte × Flags :=
  let r := (rotResult k v g.c).1
  (r, { g with f5 := r.getLsbD 5, f3 := r.getLsbD 3, h := false, n := false, c := (rotResult k v g.c).2 })

/-! ## Bit operations -/

/-- `bit8(b, v)` (R112): only flags; C is unchanged. -/
def bit8 (b : Fin 8) (v : Byte) (g : Flags) : Flags :=
  let t := v.getLsbD b.val
  { g with z := !t, pv := !t, s := (b == 7) && t, h := true, n := false, f5 := v.getLsbD 5, f3 := v.getLsbD 3 }

/-- `set8(b, v)` (R113): no flag. -/
def set8 (b : Fin 8) (v : Byte) : Byte := v ||| BitVec.ofNat 8 (2 ^ b.val)

/-- `res8(b, v)` (R113): no flag. -/
def res8 (b : Fin 8) (v : Byte) : Byte := v &&& ~~~(BitVec.ofNat 8 (2 ^ b.val))

/-! ## 16-bit arithmetic -/

/-- `add16(a, b)` (R114); `szpv` is the parameter `ADD16_SZPV`. -/
def add16 (szpv : Bool) (a b : Word) (g : Flags) : Word × Flags :=
  let w := a.toNat + b.toNat
  let r : Word := BitVec.ofNat 16 w
  let g' : Flags :=
    { g with h := decide (a.toNat % 4096 + b.toNat % 4096 > 0xFFF), n := false, c := decide (w > 0xFFFF),
             f5 := r.getLsbD 13, f3 := r.getLsbD 11 }
  (r, if szpv then
        { g' with s := r.getLsbD 15, z := r == 0,
                  pv := (a.getLsbD 15 == b.getLsbD 15) && (r.getLsbD 15 != a.getLsbD 15) }
      else g')

/-- `adc16(a, b, cin)` (R115). -/
def adc16 (a b : Word) (cin : Bool) : Word × Flags :=
  let w := a.toNat + b.toNat + cin.toNat
  let r : Word := BitVec.ofNat 16 w
  (r, { s := r.getLsbD 15, z := r == 0, f5 := r.getLsbD 13, f3 := r.getLsbD 11,
        h := decide (a.toNat % 4096 + b.toNat % 4096 + cin.toNat > 0xFFF),
        pv := (a.getLsbD 15 == b.getLsbD 15) && (r.getLsbD 15 != a.getLsbD 15),
        n := false,
        c := decide (w > 0xFFFF) })

/-- `sbc16(a, b, cin)` (R115). -/
def sbc16 (a b : Word) (cin : Bool) : Word × Flags :=
  let w : Int := a.toNat - b.toNat - cin.toNat
  let r : Word := BitVec.ofInt 16 w
  (r, { s := r.getLsbD 15, z := r == 0, f5 := r.getLsbD 13, f3 := r.getLsbD 11,
        h := decide (((a.toNat % 4096 : Nat) : Int) - (b.toNat % 4096 : Nat) - cin.toNat < 0),
        pv := (a.getLsbD 15 != b.getLsbD 15) && (r.getLsbD 15 == b.getLsbD 15),
        n := true,
        c := decide (w < 0) })

/-- `inc16(v)` (R117): no flag. -/
def inc16 (v : Word) : Word := v + 1

/-- `dec16(v)` (R117): no flag. -/
def dec16 (v : Word) : Word := v - 1

/-! ## Decimal adjust, nibble rotates and accumulator flag operations -/

/-- `daa(A, F)` (R118). -/
def daa (a : Byte) (g : Flags) : Byte × Flags :=
  let low := g.h || decide (a.toNat % 16 > 9)
  let high := g.c || decide (a.toNat > 0x99)
  let corr : Byte := (if low then 0x06 else 0) ||| (if high then 0x60 else 0)
  let res := if g.n then sub8 a corr false else add8 a corr false
  (res.1, { res.2 with pv := parity res.1, c := high })

/-- The flags of RLD and RRD with the new accumulator `r` (R119); C is unchanged. -/
def nibbleFlags (r : Byte) (g : Flags) : Flags :=
  { g.sz53 r with h := false, pv := parity r, n := false }

/-- `rld8(A, m)` (R119): the new A, the new memory byte, the flags. -/
def rld8 (a m : Byte) (g : Flags) : Byte × Byte × Flags :=
  let a' := (a &&& 0xF0) ||| (m >>> 4)
  (a', (m <<< 4) ||| (a &&& 0x0F), nibbleFlags a' g)

/-- `rrd8(A, m)` (R119): the new A, the new memory byte, the flags. -/
def rrd8 (a m : Byte) (g : Flags) : Byte × Byte × Flags :=
  let a' := (a &&& 0xF0) ||| (m &&& 0x0F)
  (a', (a <<< 4) ||| (m >>> 4), nibbleFlags a' g)

/-- `neg8(A)` (R120). -/
def neg8 (a : Byte) : Byte × Flags := sub8 0 a false

/-- `cpl8(A)` (R122); S, Z, PV and C are unchanged. -/
def cpl8 (a : Byte) (g : Flags) : Byte × Flags :=
  let r := a ^^^ 0xFF
  (r, { g with h := true, n := true, f5 := r.getLsbD 5, f3 := r.getLsbD 3 })

/-- `scf8(A)` (R122); S, Z and PV are unchanged. -/
def scf8 (a : Byte) (g : Flags) : Flags :=
  { g with c := true, h := false, n := false, f5 := a.getLsbD 5, f3 := a.getLsbD 3 }

/-- `ccf8(A)` (R122): H takes the old C; S, Z and PV are unchanged. -/
def ccf8 (a : Byte) (g : Flags) : Flags :=
  { g with c := !g.c, h := g.c, n := false, f5 := a.getLsbD 5, f3 := a.getLsbD 3 }

/-- The flags of a byte read from a port by IN r,(C) and IN (C) (48_io_cpu_control.md R326); C is unchanged. -/
def inFlags (v : Byte) (g : Flags) : Flags :=
  { g.sz53 v with h := false, pv := parity v, n := false }

/-- The flags of LD A,I and LD A,R with the value `v` read (41_load8.md R154); C is unchanged. -/
def ldAirFlags (v : Byte) (iff2 : Bool) (g : Flags) : Flags :=
  { g.sz53 v with h := false, n := false, pv := iff2 }

/-- The flags of LDI and LDD with the counter after the decrement (47_block.md R300). -/
def ldBlockFlags (bc : Word) (g : Flags) : Flags :=
  { g with pv := bc != 0, h := false, n := false }

/-- The flags of CPI and CPD with the counter after the decrement (R302); C is unchanged. -/
def cpBlockFlags (a v : Byte) (bc : Word) (g : Flags) : Flags :=
  { (sub8 a v false).2 with c := g.c, pv := bc != 0 }

/-- The flags of INI, IND, OUTI and OUTD with the counter after the decrement (R304); `carry` is `IO_BLOCK_CARRY`. -/
def ioBlockFlags (carry : Bool) (b : Byte) (g : Flags) : Flags :=
  { g with z := b == 0, n := true, c := carry }

end Sys2Proof.Machine
end

