-- ==== Sys2Proof/Config.lean ====
section
/-! DEFINITION. What the spec leaves to the implementation, as constants without a body (92_eei_decisions.md,
"Open parameters"): nothing proved about the machine can depend on their values. The parameters for which
the spec decides a default stand in Machine/Params.lean. -/

namespace Sys2Proof

/-- One port access of the event history (20_memory.md R63), with the PC of the instruction that made it. -/
inductive PortEvent where
  | input (port : Word) (value : Byte) (pc : Word)
  | output (port : Word) (value : Byte) (pc : Word)
  deriving DecidableEq, Repr

/-- The two settings of `BLOCK_R_MODE` (00_scope.md R6, 47_block.md R308). -/
inductive BlockRMode where
  | doc
  | refetch
  deriving DecidableEq, Repr

namespace Config

/-- FREE VALUE: how far `FRAME_CYCLES` lies above its lower bound 42 (D4; log 3). -/
opaque frameSlack : Nat

/-- `FRAME_CYCLES` (R6): any number of cycles that is at least 42 (D4; log 3). -/
def frameCycles : Nat := frameSlack + 42

/-- FREE VALUE: which of the four 16 KiB banks are read-only, the complement of `WRITABLE` (20_memory.md R56,
D19; log 4). -/
opaque bankReadOnly : Fin 4 → Bool

/-- FREE VALUE: `IO_BLOCK_CARRY`, the fixed carry of the block I/O instructions (47_block.md R304, D6; log 5). -/
opaque ioBlockCarry : Bool

/-- FREE VALUE: the ports the configuration declares unmatched (20_memory.md R62, D20; log 6). -/
opaque portUnmatched : Word → Bool

/-- FREE VALUE: the byte a device answers, from the event history before the read and the port (R62, D20; log 6). -/
opaque portOracle : List PortEvent → Word → Byte

end Config

end Sys2Proof
end

