-- ==== Sys2Proof/Machine/Params.lean ====
section
/-! DEFINITION. The parameters of 00_scope.md R6 for which the spec decides a default, the CycleTable among them, as one argument that
the operations and the meanings take, with its default. The parameters it leaves OPEN are the constants without a body of
Config.lean. -/

namespace Sys2Proof.Machine

/-- The forms an entry of the `cycles` column of spec/opcode_table.json takes (30_encoding.md R96). -/
inductive Cycles where
  /-- One cost. -/
  | always (n : Nat)
  /-- A cost for the branch taken and one for it not taken (46_control.md R284). -/
  | branch (taken notTaken : Nat)
  /-- A cost per non-terminal iteration and one for the terminal iteration (47_block.md R308). -/
  | perIteration (more last : Nat)
  /-- A cost per wait step (60_exceptions.md R356). -/
  | perWaitStep (n : Nat)
  /-- "see the selected row": a decode transition has no cost of its own (30_encoding.md R71). -/
  | ofSelectedRow
  deriving DecidableEq, Repr

/-- The cost of an entry: of the branch taken, of a non-terminal iteration, or of a wait step where `b` is true; of the
branch not taken or of the terminal iteration where it is false. -/
def Cycles.cost : Cycles → Bool → Nat
  | .always n, _ => n
  | .branch taken _, true => taken
  | .branch _ notTaken, false => notTaken
  | .perIteration more _, true => more
  | .perIteration _ last, false => last
  | .perWaitStep n, _ => n
  | .ofSelectedRow, _ => 0

/-- `CycleTable` (R6, R96): the base cycle cost of each table entry, at its default, the `cycles` column of
spec/opcode_table.json (D3; log 8). -/
def cycleTable : Instr → Cycles
  | .nop => .always 4
  | .ldDdNn _ _ => .always 10
  | .ldMemBcA => .always 7
  | .ldMemDeA => .always 7
  | .incSs _ => .always 6
  | .incR _ => .always 4
  | .incMemHl => .always 11
  | .decR _ => .always 4
  | .decMemHl => .always 11
  | .ldRN _ _ => .always 7
  | .ldMemHlN _ => .always 10
  | .rlca => .always 4
  | .rrca => .always 4
  | .rla => .always 4
  | .rra => .always 4
  | .exAfAf => .always 4
  | .addHlSs _ => .always 11
  | .ldAMemBc => .always 7
  | .ldAMemDe => .always 7
  | .decSs _ => .always 6
  | .djnzE _ => .branch 13 8
  | .jrE _ => .always 12
  | .jrCcE _ _ => .branch 12 7
  | .ldMemNnHl _ => .always 16
  | .ldHlMemNn _ => .always 16
  | .daa => .always 4
  | .cpl => .always 4
  | .scf => .always 4
  | .ccf => .always 4
  | .ldMemNnA _ => .always 13
  | .ldAMemNn _ => .always 13
  | .ldRR _ _ => .always 4
  | .ldRMemHl _ => .always 7
  | .ldMemHlR _ => .always 7
  | .halt => .perWaitStep 4
  | .addAR _ => .always 4
  | .addAMemHl => .always 7
  | .addAN _ => .always 7
  | .adcAR _ => .always 4
  | .adcAMemHl => .always 7
  | .adcAN _ => .always 7
  | .subR _ => .always 4
  | .subMemHl => .always 7
  | .subN _ => .always 7
  | .sbcAR _ => .always 4
  | .sbcAMemHl => .always 7
  | .sbcAN _ => .always 7
  | .andR _ => .always 4
  | .andMemHl => .always 7
  | .andN _ => .always 7
  | .xorR _ => .always 4
  | .xorMemHl => .always 7
  | .xorN _ => .always 7
  | .orR _ => .always 4
  | .orMemHl => .always 7
  | .orN _ => .always 7
  | .cpR _ => .always 4
  | .cpMemHl => .always 7
  | .cpN _ => .always 7
  | .retCc _ => .branch 11 5
  | .popQq _ => .always 10
  | .jpCcNn _ _ => .always 10
  | .jpNn _ => .always 10
  | .callCcNn _ _ => .branch 17 10
  | .pushQq _ => .always 11
  | .rstP _ => .always 11
  | .ret => .always 10
  | .callNn _ => .always 17
  | .outPortNA _ => .always 11
  | .inAPortN _ => .always 11
  | .exx => .always 4
  | .exMemSpHl => .always 19
  | .jpHl => .always 4
  | .exDeHl => .always 4
  | .di => .always 4
  | .ei => .always 4
  | .ldSpHl => .always 6
  | .prefixCb => .ofSelectedRow
  | .prefixEd => .ofSelectedRow
  | .prefixDd => .ofSelectedRow
  | .prefixFd => .ofSelectedRow
  | .rlcR _ => .always 8
  | .rlcMemHl => .always 15
  | .rrcR _ => .always 8
  | .rrcMemHl => .always 15
  | .rlR _ => .always 8
  | .rlMemHl => .always 15
  | .rrR _ => .always 8
  | .rrMemHl => .always 15
  | .slaR _ => .always 8
  | .slaMemHl => .always 15
  | .sraR _ => .always 8
  | .sraMemHl => .always 15
  | .slsR _ => .always 8
  | .slsMemHl => .always 15
  | .srlR _ => .always 8
  | .srlMemHl => .always 15
  | .bitBR _ _ => .always 8
  | .bitBMemHl _ => .always 12
  | .resBR _ _ => .always 8
  | .resBMemHl _ => .always 15
  | .setBR _ _ => .always 8
  | .setBMemHl _ => .always 15
  | .inRPortC _ => .always 12
  | .inPortC => .always 12
  | .outPortCR _ => .always 12
  | .outPortCZero => .always 12
  | .sbcHlSs _ => .always 15
  | .adcHlSs _ => .always 15
  | .ldMemNnDd _ _ => .always 20
  | .ldDdMemNn _ _ => .always 20
  | .neg => .always 8
  | .retn => .always 14
  | .reti => .always 14
  | .im0 => .always 8
  | .im1 => .always 8
  | .im2 => .always 8
  | .ldIA => .always 9
  | .ldRA => .always 9
  | .ldAI => .always 9
  | .ldAR => .always 9
  | .rrd => .always 18
  | .rld => .always 18
  | .ldi => .always 16
  | .cpi => .always 16
  | .ini => .always 16
  | .outi => .always 16
  | .ldd => .always 16
  | .cpd => .always 16
  | .ind => .always 16
  | .outd => .always 16
  | .ldir => .perIteration 21 16
  | .cpir => .perIteration 21 16
  | .inir => .perIteration 21 16
  | .otir => .perIteration 21 16
  | .lddr => .perIteration 21 16
  | .cpdr => .perIteration 21 16
  | .indr => .perIteration 21 16
  | .otdr => .perIteration 21 16
  | .edNop _ => .always 8
  | .addIxPp _ => .always 15
  | .ldIxNn _ => .always 14
  | .ldMemNnIx _ => .always 20
  | .ldIxMemNn _ => .always 20
  | .incIx => .always 10
  | .decIx => .always 10
  | .incIxh => .always 8
  | .incIxl => .always 8
  | .decIxh => .always 8
  | .decIxl => .always 8
  | .ldIxhN _ => .always 11
  | .ldIxlN _ => .always 11
  | .incMemIxd _ => .always 23
  | .decMemIxd _ => .always 23
  | .ldMemIxdN _ _ => .always 19
  | .ldIxhR _ => .always 8
  | .ldIxlR _ => .always 8
  | .ldRIxh _ => .always 8
  | .ldRIxl _ => .always 8
  | .ldRMemIxd _ _ => .always 19
  | .ldMemIxdR _ _ => .always 19
  | .addAIxh => .always 8
  | .addAIxl => .always 8
  | .addAMemIxd _ => .always 19
  | .adcAIxh => .always 8
  | .adcAIxl => .always 8
  | .adcAMemIxd _ => .always 19
  | .subIxh => .always 8
  | .subIxl => .always 8
  | .subMemIxd _ => .always 19
  | .sbcAIxh => .always 8
  | .sbcAIxl => .always 8
  | .sbcAMemIxd _ => .always 19
  | .andIxh => .always 8
  | .andIxl => .always 8
  | .andMemIxd _ => .always 19
  | .xorIxh => .always 8
  | .xorIxl => .always 8
  | .xorMemIxd _ => .always 19
  | .orIxh => .always 8
  | .orIxl => .always 8
  | .orMemIxd _ => .always 19
  | .cpIxh => .always 8
  | .cpIxl => .always 8
  | .cpMemIxd _ => .always 19
  | .popIx => .always 14
  | .exMemSpIx => .always 23
  | .pushIx => .always 15
  | .jpIx => .always 8
  | .ldSpIx => .always 10
  | .prefixDdCb => .ofSelectedRow
  | .lonePrefixDd => .always 4
  | .addIyPp _ => .always 15
  | .ldIyNn _ => .always 14
  | .ldMemNnIy _ => .always 20
  | .ldIyMemNn _ => .always 20
  | .incIy => .always 10
  | .decIy => .always 10
  | .incIyh => .always 8
  | .incIyl => .always 8
  | .decIyh => .always 8
  | .decIyl => .always 8
  | .ldIyhN _ => .always 11
  | .ldIylN _ => .always 11
  | .incMemIyd _ => .always 23
  | .decMemIyd _ => .always 23
  | .ldMemIydN _ _ => .always 19
  | .ldIyhR _ => .always 8
  | .ldIylR _ => .always 8
  | .ldRIyh _ => .always 8
  | .ldRIyl _ => .always 8
  | .ldRMemIyd _ _ => .always 19
  | .ldMemIydR _ _ => .always 19
  | .addAIyh => .always 8
  | .addAIyl => .always 8
  | .addAMemIyd _ => .always 19
  | .adcAIyh => .always 8
  | .adcAIyl => .always 8
  | .adcAMemIyd _ => .always 19
  | .subIyh => .always 8
  | .subIyl => .always 8
  | .subMemIyd _ => .always 19
  | .sbcAIyh => .always 8
  | .sbcAIyl => .always 8
  | .sbcAMemIyd _ => .always 19
  | .andIyh => .always 8
  | .andIyl => .always 8
  | .andMemIyd _ => .always 19
  | .xorIyh => .always 8
  | .xorIyl => .always 8
  | .xorMemIyd _ => .always 19
  | .orIyh => .always 8
  | .orIyl => .always 8
  | .orMemIyd _ => .always 19
  | .cpIyh => .always 8
  | .cpIyl => .always 8
  | .cpMemIyd _ => .always 19
  | .popIy => .always 14
  | .exMemSpIy => .always 23
  | .pushIy => .always 15
  | .jpIy => .always 8
  | .ldSpIy => .always 10
  | .prefixFdCb => .ofSelectedRow
  | .lonePrefixFd => .always 4
  | .rlcMemIxd _ => .always 23
  | .rlcMemIxdR _ _ => .always 23
  | .rrcMemIxd _ => .always 23
  | .rrcMemIxdR _ _ => .always 23
  | .rlMemIxd _ => .always 23
  | .rlMemIxdR _ _ => .always 23
  | .rrMemIxd _ => .always 23
  | .rrMemIxdR _ _ => .always 23
  | .slaMemIxd _ => .always 23
  | .slaMemIxdR _ _ => .always 23
  | .sraMemIxd _ => .always 23
  | .sraMemIxdR _ _ => .always 23
  | .slsMemIxd _ => .always 23
  | .slsMemIxdR _ _ => .always 23
  | .srlMemIxd _ => .always 23
  | .srlMemIxdR _ _ => .always 23
  | .bitBMemIxd _ _ => .always 20
  | .resBMemIxd _ _ => .always 23
  | .resBMemIxdR _ _ _ => .always 23
  | .setBMemIxd _ _ => .always 23
  | .setBMemIxdR _ _ _ => .always 23
  | .rlcMemIyd _ => .always 23
  | .rlcMemIydR _ _ => .always 23
  | .rrcMemIyd _ => .always 23
  | .rrcMemIydR _ _ => .always 23
  | .rlMemIyd _ => .always 23
  | .rlMemIydR _ _ => .always 23
  | .rrMemIyd _ => .always 23
  | .rrMemIydR _ _ => .always 23
  | .slaMemIyd _ => .always 23
  | .slaMemIydR _ _ => .always 23
  | .sraMemIyd _ => .always 23
  | .sraMemIydR _ _ => .always 23
  | .slsMemIyd _ => .always 23
  | .slsMemIydR _ _ => .always 23
  | .srlMemIyd _ => .always 23
  | .srlMemIydR _ _ => .always 23
  | .bitBMemIyd _ _ => .always 20
  | .resBMemIyd _ _ => .always 23
  | .resBMemIydR _ _ _ => .always 23
  | .setBMemIyd _ _ => .always 23
  | .setBMemIydR _ _ _ => .always 23

/-- The costs of an iteration of a repeat form, which 47_block.md R308 writes out and the CycleTable does not change
(60_exceptions.md R351): 21 where another follows, 16 for the last (log 8). -/
def blockCosts : Cycles := .perIteration 21 16

/-- The parameters of R6 that have a decided default. Everything that depends on one takes them as an argument (log 7). -/
structure Params where
  /-- `VECTOR_BYTE`: the low byte of the mode-2 vector address (60_exceptions.md R354, D5). -/
  vectorByte : Byte
  /-- `BLOCK_R_MODE`: how the iterations of a repeat form advance R (47_block.md R308, D7). -/
  blockRMode : BlockRMode
  /-- `IXCB_REG_COPY`: an indexed rotate, RES or SET with a register field copies its result there (45_rotate_bit.md R261, D11). -/
  ixcbRegCopy : Bool
  /-- `ADD16_SZPV`: ADD HL,ss and ADD XY,pp write S, Z and PV (40_alu.md R114, D36). -/
  add16Szpv : Bool
  /-- `RETI_RESTORES_IFF1`: RETI copies IFF2 to IFF1 (46_control.md R283, D16). -/
  retiRestoresIff1 : Bool
  /-- `CycleTable`: the base cost of each instruction form (30_encoding.md R96, D3). -/
  cycles : Instr → Cycles

/-- The decided defaults (D3, D5, D7, D11, D16, D36; log 7, log 8): "conventionally 0xFF in this design" for `VECTOR_BYTE`. -/
def Params.default : Params :=
  { vectorByte := 0xFF, blockRMode := .doc, ixcbRegCopy := true, add16Szpv := false, retiRestoresIff1 := false,
    cycles := cycleTable }

end Sys2Proof.Machine
end

