-- ==== Sys2Proof/Machine/Memory.lean ====
section
/-! DEFINITION. The memory store (20_memory.md R50): 65536 bytes, held as the list of the bytes that differ from
what an unlisted address reads as, in one canonical form. -/

namespace Sys2Proof.Machine

/-- The bytes that were written or loaded, as (address, byte) pairs with strictly rising addresses. -/
abbrev Memory := List Host.Cell

/-- What an address that nothing has written or loaded reads as. DESIGN CHOICE, unsafe (log 2). -/
def Memory.unlisted : Byte := 0x00

/-- The byte at address `a` (R52). -/
def Memory.read : Memory → Nat → Byte
  | [], _ => Memory.unlisted
  | (k, v) :: rest, a => if k = a then v else Memory.read rest a

/-- Put byte `v` at address `a`, keeping the canonical form. -/
def Memory.write : Memory → Nat → Byte → Memory
  | [], a, v => if v = Memory.unlisted then [] else [(a, v)]
  | (k, w) :: rest, a, v =>
    if a < k then (if v = Memory.unlisted then (k, w) :: rest else (a, v) :: (k, w) :: rest)
    else if a = k then (if v = Memory.unlisted then rest else (k, v) :: rest)
    else (k, w) :: Memory.write rest a v

/-- The list is canonical above the bound `lo`: every address is at least `lo`, below 65536 and rising, and no entry
holds the unlisted byte. -/
def Memory.wfFrom : Nat → Memory → Bool
  | _, [] => true
  | lo, (k, v) :: rest => decide (lo ≤ k) && decide (k < 65536) && decide (v ≠ Memory.unlisted) && Memory.wfFrom (k + 1) rest

/-- The canonical form. -/
def Memory.wf (m : Memory) : Bool := Memory.wfFrom 0 m

end Sys2Proof.Machine
end

