-- ==== Sys2Proof/Machine/State.lean ====
section
/-! DEFINITION. The state of the machine (10_state.md R20): the register file, the cycle budget, the halted flag,
and beside them the memory (20_memory.md R50) and the event history (R63). Plain data. -/

namespace Sys2Proof.Machine

/-- The interrupt mode IM (10_state.md R36). -/
inductive IntMode where
  | mode0 | mode1 | mode2
  deriving DecidableEq, Repr

/-- The architectural state (R20). -/
structure State where
  /-- The accumulator A (R21). -/
  a : Byte
  /-- The flag byte F (R27): S Z F5 H F3 PV N C, bit 7 to bit 0. -/
  f : Byte
  b : Byte
  c : Byte
  d : Byte
  e : Byte
  h : Byte
  l : Byte
  /-- The shadow set A′, F′, B′, C′, D′, E′, H′, L′ (R23). -/
  altA : Byte
  altF : Byte
  altB : Byte
  altC : Byte
  altD : Byte
  altE : Byte
  altH : Byte
  altL : Byte
  /-- The index registers (R24). -/
  ix : Word
  iy : Word
  /-- The stack pointer (R26). -/
  sp : Word
  /-- The program counter (R30): at a step boundary, the address of the next byte to be fetched. -/
  pc : Word
  /-- The interrupt vector register I (R34). -/
  i : Byte
  /-- The refresh register R (R32). -/
  r : Byte
  /-- The interrupt flip-flops (R35). -/
  iff1 : Bool
  iff2 : Bool
  /-- The interrupt mode (R36). -/
  im : IntMode
  /-- The cycle budget (R38), an unbounded signed integer (D40). -/
  budget : Int
  /-- The hidden halted flag (R40). -/
  halted : Bool
  /-- The memory store (20_memory.md R50). -/
  mem : Memory
  /-- The event history (R63), oldest first. -/
  events : List PortEvent
  deriving DecidableEq, Repr

/-- There is no fault: "No instruction and no access raises an exception, trap or fault" (60_exceptions.md R360), so
nobody raises one and the type has no constructor (log 18). -/
inductive Fault where
  deriving DecidableEq, Repr

/-- Why a step has no answer. -/
inductive Refusal where
  /-- Raised by exec for an instruction that has no meaning yet; no arm raises it. Safe. -/
  | notModelled (mnemonic : String)
  /-- Raised by execSelected for a transition row, which no context selects after a prefix byte (30_encoding.md R71);
  no state and no instruction reaches it (log 9). Safe. -/
  | transitionSelected
  deriving DecidableEq, Repr

/-- The draws of the reset oracle (70_reset_and_hazards.md R380, D17): a value for each register whose reset value
the source does not give. -/
structure ResetDraws where
  a : Byte
  b : Byte
  c : Byte
  d : Byte
  e : Byte
  h : Byte
  l : Byte
  altA : Byte
  altF : Byte
  altB : Byte
  altC : Byte
  altD : Byte
  altE : Byte
  altH : Byte
  altL : Byte
  ix : Word
  iy : Word
  i : Byte
  r : Byte
  deriving DecidableEq, Repr

/-- Every draw zero. DESIGN CHOICE, unsafe (log 1). -/
def ResetDraws.zero : ResetDraws :=
  { a := 0, b := 0, c := 0, d := 0, e := 0, h := 0, l := 0,
    altA := 0, altF := 0, altB := 0, altC := 0, altD := 0, altE := 0, altH := 0, altL := 0,
    ix := 0, iy := 0, i := 0, r := 0 }

/-- Reset with given draws (R380): "PC=0, SP=0, all flags false, interrupts disabled, mode 0", the budget at
`-FRAME_CYCLES`, not halted, no event; memory is not written. -/
def State.resetWith (w : ResetDraws) : State :=
  { a := w.a, f := 0x00, b := w.b, c := w.c, d := w.d, e := w.e, h := w.h, l := w.l,
    altA := w.altA, altF := w.altF, altB := w.altB, altC := w.altC, altD := w.altD, altE := w.altE,
    altH := w.altH, altL := w.altL,
    ix := w.ix, iy := w.iy, sp := 0x0000, pc := 0x0000, i := w.i, r := w.r,
    iff1 := false, iff2 := false, im := .mode0,
    budget := -(Config.frameCycles : Int), halted := false, mem := [], events := [] }

/-- The machine right after reset (R380), with every draw zero (log 1). -/
def State.reset : State := State.resetWith ResetDraws.zero

end Sys2Proof.Machine
end

