-- ==== Sys2Proof/Machine/Ops.lean ====
section
/-! DEFINITION. The named operations over memory, stack, ports, fetch and budget (20_memory.md, 30_encoding.md R72 to
R75, 60_exceptions.md R351), and taking the interrupt as one shared operation (R352 to R354) with the HALT wait
(R356, R357) and the return (R362) beside it. -/

namespace Sys2Proof.Machine

/-! ## Memory (20_memory.md) -/

/-- `MemRead(addr, 1)` (R52). -/
def State.readByte (s : State) (a : Word) : Byte := s.mem.read a.toNat

/-- `MemRead(addr, 2)` (R53): the low byte at `a`, the high byte at `a + 1`, which wraps. -/
def State.readWord (s : State) (a : Word) : Word := wordOf (s.readByte (a + 1)) (s.readByte a)

/-- `WRITABLE[addr[15:14]]` (R54, R56; log 4). -/
def writable (a : Word) : Bool := !Config.bankReadOnly (bankOf a)

/-- Put a byte into memory whatever its bank: the loader's write (70_reset_and_hazards.md R382). -/
def State.poke (s : State) (a : Word) (v : Byte) : State := { s with mem := s.mem.write a.toNat v }

/-- `MemWrite(addr, 1, v)` (R54): a write to a read-only bank is silently discarded. -/
def State.writeByte (s : State) (a : Word) (v : Byte) : State :=
  { s with mem := if writable a then s.mem.write a.toNat v else s.mem }

/-- `MemWrite(addr, 2, v)` (R55): the low byte, then the high byte at the next address, which wraps. -/
def State.writeWord (s : State) (a : Word) (v : Word) : State :=
  (s.writeByte a (loByte v)).writeByte (a + 1) (hiByte v)

/-- `Push16(v)` (R57). -/
def State.push16 (s : State) (v : Word) : State :=
  { s with sp := s.sp - 2 }.writeWord (s.sp - 2) v

/-- The word `Pop16()` returns (R57). -/
def State.top16 (s : State) : Word := s.readWord s.sp

/-- The state after `Pop16()` (R57). -/
def State.drop16 (s : State) : State := { s with sp := s.sp + 2 }

/-! ## Ports (R60 to R63) -/

/-- The byte `PortIn(port)` returns (R62): the oracle's answer, 0xFF for a port declared unmatched (log 6). -/
def State.portValue (s : State) (port : Word) : Byte :=
  if Config.portUnmatched port then 0xFF else Config.portOracle s.events port

/-- The PC of the instruction being executed, for the event's tag (R63): every port instruction is two bytes long, and
PC stands just past it (log 14). -/
def State.portInstrPc (s : State) : Word := s.pc - 2

/-- The state after `PortIn(port)` has returned `v` (R62). -/
def State.recordIn (s : State) (port : Word) (v : Byte) : State :=
  { s with events := s.events ++ [.input port v s.portInstrPc] }

/-- `PortOut(port, v)` (R61). -/
def State.portOut (s : State) (port : Word) (v : Byte) : State :=
  { s with events := s.events ++ [.output port v s.portInstrPc] }

/-! ## Refresh, budget and fetch -/

/-- `IncR(n)` on the register's value (10_state.md R33): the low 7 bits count, bit 7 is kept. -/
def bumpR (r : Byte) (n : Nat) : Byte := (r &&& 0x80) ||| BitVec.ofNat 8 ((r.toNat % 128 + n) % 128)

/-- `IncR(n)` (R33). -/
def State.incR (s : State) (n : Nat) : State := { s with r := bumpR s.r n }

/-- `budget <- budget + c` (60_exceptions.md R351). -/
def State.charge (s : State) (c : Nat) : State := { s with budget := s.budget + c }

/-- The byte `FetchOp()` and `Fetch8()` return (30_encoding.md R72, R73). -/
def State.fetchedByte (s : State) : Byte := s.readByte s.pc

/-- The state after `FetchOp()` (R72): an M1 fetch, which advances R. -/
def State.afterFetchOp (s : State) : State := { s with pc := s.pc + 1, r := bumpR s.r 1 }

/-- The state after `Fetch8()` (R73), which does not change R. -/
def State.afterFetch8 (s : State) : State := { s with pc := s.pc + 1 }

/-- The state after the fetches of a decoded instruction: `length` bytes, `m1` of them M1 fetches (R72 to R75, R95;
log 10). -/
def State.afterFetch (s : State) (length m1 : Nat) : State :=
  { s with pc := s.pc + BitVec.ofNat 16 length, r := bumpR s.r m1 }

/-! ## Answers -/

/-- What exec answers. -/
abbrev Answer := Host.Outcome State Fault Refusal

/-- The instruction `i` ends in the state `s`, and the step charges its cost (R351): that of the CycleTable of `P`, of the branch
taken where `taken` is true. -/
def finishBranch (P : Params) (i : Instr) (taken : Bool) (s : State) : Answer := .next (s.charge ((P.cycles i).cost taken))

/-- The instruction `i` ends in the state `s`; its table entry has one cost. -/
def finish (P : Params) (i : Instr) (s : State) : Answer := finishBranch P i false s

/-! ## The maskable interrupt (60_exceptions.md R352 to R354) -/

/-- `Accept()` (R353 for Mode0 and Mode1, R354 for Mode2): the core wakes, PC is pushed, both flip-flops are cleared, and
PC goes to 0x0038 or to the word at `{I, VECTOR_BYTE}`, read after the push. -/
def State.acceptInterrupt (s : State) (P : Params := Params.default) : State :=
  let s1 := { s with halted := false }.push16 s.pc
  let s2 := { s1 with iff1 := false, iff2 := false }
  match s2.im with
  | .mode0 | .mode1 => { s2 with pc := 0x0038 }
  | .mode2 => { s2 with pc := s2.readWord (wordOf s2.i P.vectorByte) }

/-- The cycles `Accept()` returns: 13, or 19 in Mode2 (R353, R354). -/
def acceptCost : IntMode → Nat
  | .mode0 | .mode1 => 13
  | .mode2 => 19

/-- The interrupt opportunity at the start of a step (R350, R352): taken when the budget is non-negative, accepted when
IFF1 is set, lost otherwise. -/
def State.opportunity (s : State) (P : Params := Params.default) : State :=
  if 0 ≤ s.budget then
    if s.iff1 then
      let t := s.acceptInterrupt P
      { t with budget := t.budget - ((Config.frameCycles : Int) - acceptCost s.im) }
    else { s with budget := s.budget - Config.frameCycles }
  else s

/-! ## The HALT wait (R356, R357) -/

/-- The number of 4-cycle steps that bring the budget `b` to 0 or more: `max(0, ceil(-b / 4))`. -/
def waitSteps (b : Int) : Nat := ((3 - b) / 4).toNat

/-- `HaltedWait()` (R357). -/
def State.haltedWait (s : State) : State :=
  { s with budget := s.budget + 4 * (waitSteps s.budget : Int), r := bumpR s.r (waitSteps s.budget) }

/-! ## Return (R362) -/

/-- `PC <- Pop16()`: the return of RET, RETN and RETI (46_control.md R279, R282, R283). -/
def State.popPc (s : State) : State := { s.drop16 with pc := s.top16 }

end Sys2Proof.Machine
end

