-- ==== Sys2Proof/Machine/Operands.lean ====
section
/-! DEFINITION. The operand forms of 30_encoding.md R91: registers and halves, pairs and their aliasing (10_state.md
R22), index registers and halves (R24), effective addresses (R79) and conditions (R80). -/

namespace Sys2Proof.Machine

/-- Read a register of the r-table (R77). -/
def State.reg8 (s : State) : Reg8 → Byte
  | .b => s.b | .c => s.c | .d => s.d | .e => s.e | .h => s.h | .l => s.l | .a => s.a

/-- Write a register of the r-table (R77). -/
def State.setReg8 (s : State) (r : Reg8) (v : Byte) : State :=
  match r with
  | .b => { s with b := v }
  | .c => { s with c := v }
  | .d => { s with d := v }
  | .e => { s with e := v }
  | .h => { s with h := v }
  | .l => { s with l := v }
  | .a => { s with a := v }

/-- The pairs BC, DE and HL: the first-named register is the high byte (R22). -/
def State.bc (s : State) : Word := wordOf s.b s.c
def State.de (s : State) : Word := wordOf s.d s.e
def State.hl (s : State) : Word := wordOf s.h s.l

/-- Writing a pair writes its two halves (R22). -/
def State.setBc (s : State) (v : Word) : State := { s with b := hiByte v, c := loByte v }
def State.setDe (s : State) (v : Word) : State := { s with d := hiByte v, e := loByte v }
def State.setHl (s : State) (v : Word) : State := { s with h := hiByte v, l := loByte v }

/-- Read a pair of the rp-table (R78). -/
def State.pair (s : State) : Pair → Word
  | .bc => s.bc | .de => s.de | .hl => s.hl | .sp => s.sp

/-- Write a pair of the rp-table (R78). -/
def State.setPair (s : State) (p : Pair) (v : Word) : State :=
  match p with
  | .bc => s.setBc v
  | .de => s.setDe v
  | .hl => s.setHl v
  | .sp => { s with sp := v }

/-- Read a pair of the rp2-table (R78); AF is `{A, F}` (R22). -/
def State.pairQ (s : State) : PairQ → Word
  | .bc => s.bc | .de => s.de | .hl => s.hl | .af => wordOf s.a s.f

/-- Write a pair of the rp2-table (R78); AF writes all of F (42_load16_exchange.md R182). -/
def State.setPairQ (s : State) (p : PairQ) (v : Word) : State :=
  match p with
  | .bc => s.setBc v
  | .de => s.setDe v
  | .hl => s.setHl v
  | .af => { s with a := hiByte v, f := loByte v }

/-- Read XY (R25). -/
def State.xy (s : State) : IdxReg → Word
  | .ix => s.ix | .iy => s.iy

/-- Write XY (R24). -/
def State.setXy (s : State) (x : IdxReg) (v : Word) : State :=
  match x with
  | .ix => { s with ix := v }
  | .iy => { s with iy := v }

/-- XYH and XYL (R24). -/
def State.xyh (s : State) (x : IdxReg) : Byte := hiByte (s.xy x)
def State.xyl (s : State) (x : IdxReg) : Byte := loByte (s.xy x)

/-- "Writing a half changes only that byte" (R24). -/
def State.setXyh (s : State) (x : IdxReg) (v : Byte) : State := s.setXy x (wordOf v (s.xyl x))
def State.setXyl (s : State) (x : IdxReg) (v : Byte) : State := s.setXy x (wordOf (s.xyh x) v)

/-- Read a register of the Indexed r-table (R77, R79). -/
def State.regX (s : State) (x : IdxReg) : RegX → Byte
  | .b => s.b | .c => s.c | .d => s.d | .e => s.e | .xyh => s.xyh x | .xyl => s.xyl x | .a => s.a

/-- Read a pair of the Indexed rp-table (R78). -/
def State.pairX (s : State) (x : IdxReg) : PairX → Word
  | .bc => s.bc | .de => s.de | .xy => s.xy x | .sp => s.sp

/-- `ea = trunc_16(XY + d)` (R79). -/
def State.ea (s : State) (x : IdxReg) (d : Byte) : Word := addOffset (s.xy x) d

/-- The flags of F by name (R28). -/
def State.flags (s : State) : Flags := Flags.ofByte s.f

/-- Write the flags (R28). -/
def State.setFlags (s : State) (g : Flags) : State := { s with f := g.toByte }

/-- `cond(cc)` (R80). -/
def State.cond (s : State) : Cond → Bool
  | .nz => !s.flags.z
  | .z => s.flags.z
  | .nc => !s.flags.c
  | .c => s.flags.c
  | .po => !s.flags.pv
  | .pe => s.flags.pv
  | .p => !s.flags.s
  | .m => s.flags.s

end Sys2Proof.Machine
end

