-- ==== Sys2Proof/Machine/Arith16.lean ====
section
/-! DEFINITION. 16-bit arithmetic (44_arith16.md R230 to R237). -/

namespace Sys2Proof.Machine

/-- `ADD HL,ss` (R230). -/
def execAddHlSs (ss : Pair) (s : State) (P : Params := Params.default) : Answer :=
  let p := add16 P.add16Szpv s.hl (s.pair ss) s.flags
  finish P (.addHlSs ss) ((s.setHl p.1).setFlags p.2)

/-- `ADC HL,ss` (R232). -/
def execAdcHlSs (ss : Pair) (s : State) (P : Params := Params.default) : Answer :=
  let p := adc16 s.hl (s.pair ss) s.flags.c
  finish P (.adcHlSs ss) ((s.setHl p.1).setFlags p.2)

/-- `SBC HL,ss` (R233). -/
def execSbcHlSs (ss : Pair) (s : State) (P : Params := Params.default) : Answer :=
  let p := sbc16 s.hl (s.pair ss) s.flags.c
  finish P (.sbcHlSs ss) ((s.setHl p.1).setFlags p.2)

/-- `INC ss` (R234). -/
def execIncSs (ss : Pair) (s : State) (P : Params := Params.default) : Answer :=
  finish P (.incSs ss) (s.setPair ss (inc16 (s.pair ss)))

/-- `DEC ss` (R236). -/
def execDecSs (ss : Pair) (s : State) (P : Params := Params.default) : Answer :=
  finish P (.decSs ss) (s.setPair ss (dec16 (s.pair ss)))

/-- `ADD IX,pp` (R231). -/
def execAddIxPp (pp : PairX) (s : State) (P : Params := Params.default) : Answer :=
  let p := add16 P.add16Szpv (s.xy .ix) (s.pairX .ix pp) s.flags
  finish P (.addIxPp pp) ((s.setXy .ix p.1).setFlags p.2)

/-- `INC IX` (R235). -/
def execIncIx (s : State) (P : Params := Params.default) : Answer := finish P .incIx (s.setXy .ix (inc16 (s.xy .ix)))

/-- `DEC IX` (R237). -/
def execDecIx (s : State) (P : Params := Params.default) : Answer := finish P .decIx (s.setXy .ix (dec16 (s.xy .ix)))

/-- `ADD IY,pp` (R231). -/
def execAddIyPp (pp : PairX) (s : State) (P : Params := Params.default) : Answer :=
  let p := add16 P.add16Szpv (s.xy .iy) (s.pairX .iy pp) s.flags
  finish P (.addIyPp pp) ((s.setXy .iy p.1).setFlags p.2)

/-- `INC IY` (R235). -/
def execIncIy (s : State) (P : Params := Params.default) : Answer := finish P .incIy (s.setXy .iy (inc16 (s.xy .iy)))

/-- `DEC IY` (R237). -/
def execDecIy (s : State) (P : Params := Params.default) : Answer := finish P .decIy (s.setXy .iy (dec16 (s.xy .iy)))

end Sys2Proof.Machine
end

