-- ==== Sys2Proof/Machine/Arith8.lean ====
section
/-! DEFINITION. 8-bit arithmetic and logic (43_arith8.md R200 to R221). -/

namespace Sys2Proof.Machine

/-! ## Shared operations -/

/-- Write a result into A and its flags into F. -/
def State.setAcc (s : State) (p : Byte × Flags) : State := { s with a := p.1, f := p.2.toByte }

/-- `ADD A,s` (R201), `ADC A,s` (R202), `SUB s` (R203), `SBC A,s` (R204), `AND s` (R205), `XOR s` (R206), `OR s` (R207) and
`CP s` (R208) on the source byte `v`. -/
def State.alu (s : State) (k : AluOp) (v : Byte) : State :=
  match k with
  | .add => s.setAcc (add8 s.a v false)
  | .adc => s.setAcc (add8 s.a v s.flags.c)
  | .sub => s.setAcc (sub8 s.a v false)
  | .sbc => s.setAcc (sub8 s.a v s.flags.c)
  | .and => s.setAcc (and8 s.a v)
  | .xor => s.setAcc (xor8 s.a v)
  | .or => s.setAcc (or8 s.a v)
  | .cp => s.setFlags (cp8 s.a v)

/-- The byte at `a` is replaced by a result and the flags of F by its flags (INC (HL), DEC (XY+d), rotates in memory). -/
def State.modifyMem (s : State) (a : Word) (p : Byte × Flags) : State := (s.writeByte a p.1).setFlags p.2

/-! ## Accumulator operations, by the operand forms of R200 -/

/-- `ADD A,r` (R201). -/
def execAddAR (r : Reg8) (s : State) (P : Params := Params.default) : Answer :=
  finish P (.addAR r) (s.alu .add (s.reg8 r))

/-- `ADD A,(HL)` (R201). -/
def execAddAMemHl (s : State) (P : Params := Params.default) : Answer :=
  finish P .addAMemHl (s.alu .add (s.readByte s.hl))

/-- `ADD A,n` (R201). -/
def execAddAN (n : Byte) (s : State) (P : Params := Params.default) : Answer := finish P (.addAN n) (s.alu .add n)

/-- `ADD A,IXH` (R201). -/
def execAddAIxh (s : State) (P : Params := Params.default) : Answer := finish P .addAIxh (s.alu .add (s.xyh .ix))

/-- `ADD A,IXL` (R201). -/
def execAddAIxl (s : State) (P : Params := Params.default) : Answer := finish P .addAIxl (s.alu .add (s.xyl .ix))

/-- `ADD A,(IX+d)` (R201). -/
def execAddAMemIxd (d : Byte) (s : State) (P : Params := Params.default) : Answer :=
  finish P (.addAMemIxd d) (s.alu .add (s.readByte (s.ea .ix d)))

/-- `ADD A,IYH` (R201). -/
def execAddAIyh (s : State) (P : Params := Params.default) : Answer := finish P .addAIyh (s.alu .add (s.xyh .iy))

/-- `ADD A,IYL` (R201). -/
def execAddAIyl (s : State) (P : Params := Params.default) : Answer := finish P .addAIyl (s.alu .add (s.xyl .iy))

/-- `ADD A,(IY+d)` (R201). -/
def execAddAMemIyd (d : Byte) (s : State) (P : Params := Params.default) : Answer :=
  finish P (.addAMemIyd d) (s.alu .add (s.readByte (s.ea .iy d)))

/-- `ADC A,r` (R202). -/
def execAdcAR (r : Reg8) (s : State) (P : Params := Params.default) : Answer :=
  finish P (.adcAR r) (s.alu .adc (s.reg8 r))

/-- `ADC A,(HL)` (R202). -/
def execAdcAMemHl (s : State) (P : Params := Params.default) : Answer :=
  finish P .adcAMemHl (s.alu .adc (s.readByte s.hl))

/-- `ADC A,n` (R202). -/
def execAdcAN (n : Byte) (s : State) (P : Params := Params.default) : Answer := finish P (.adcAN n) (s.alu .adc n)

/-- `ADC A,IXH` (R202). -/
def execAdcAIxh (s : State) (P : Params := Params.default) : Answer := finish P .adcAIxh (s.alu .adc (s.xyh .ix))

/-- `ADC A,IXL` (R202). -/
def execAdcAIxl (s : State) (P : Params := Params.default) : Answer := finish P .adcAIxl (s.alu .adc (s.xyl .ix))

/-- `ADC A,(IX+d)` (R202). -/
def execAdcAMemIxd (d : Byte) (s : State) (P : Params := Params.default) : Answer :=
  finish P (.adcAMemIxd d) (s.alu .adc (s.readByte (s.ea .ix d)))

/-- `ADC A,IYH` (R202). -/
def execAdcAIyh (s : State) (P : Params := Params.default) : Answer := finish P .adcAIyh (s.alu .adc (s.xyh .iy))

/-- `ADC A,IYL` (R202). -/
def execAdcAIyl (s : State) (P : Params := Params.default) : Answer := finish P .adcAIyl (s.alu .adc (s.xyl .iy))

/-- `ADC A,(IY+d)` (R202). -/
def execAdcAMemIyd (d : Byte) (s : State) (P : Params := Params.default) : Answer :=
  finish P (.adcAMemIyd d) (s.alu .adc (s.readByte (s.ea .iy d)))

/-- `SUB r` (R203). -/
def execSubR (r : Reg8) (s : State) (P : Params := Params.default) : Answer :=
  finish P (.subR r) (s.alu .sub (s.reg8 r))

/-- `SUB (HL)` (R203). -/
def execSubMemHl (s : State) (P : Params := Params.default) : Answer :=
  finish P .subMemHl (s.alu .sub (s.readByte s.hl))

/-- `SUB n` (R203). -/
def execSubN (n : Byte) (s : State) (P : Params := Params.default) : Answer := finish P (.subN n) (s.alu .sub n)

/-- `SUB IXH` (R203). -/
def execSubIxh (s : State) (P : Params := Params.default) : Answer := finish P .subIxh (s.alu .sub (s.xyh .ix))

/-- `SUB IXL` (R203). -/
def execSubIxl (s : State) (P : Params := Params.default) : Answer := finish P .subIxl (s.alu .sub (s.xyl .ix))

/-- `SUB (IX+d)` (R203). -/
def execSubMemIxd (d : Byte) (s : State) (P : Params := Params.default) : Answer :=
  finish P (.subMemIxd d) (s.alu .sub (s.readByte (s.ea .ix d)))

/-- `SUB IYH` (R203). -/
def execSubIyh (s : State) (P : Params := Params.default) : Answer := finish P .subIyh (s.alu .sub (s.xyh .iy))

/-- `SUB IYL` (R203). -/
def execSubIyl (s : State) (P : Params := Params.default) : Answer := finish P .subIyl (s.alu .sub (s.xyl .iy))

/-- `SUB (IY+d)` (R203). -/
def execSubMemIyd (d : Byte) (s : State) (P : Params := Params.default) : Answer :=
  finish P (.subMemIyd d) (s.alu .sub (s.readByte (s.ea .iy d)))

/-- `SBC A,r` (R204). -/
def execSbcAR (r : Reg8) (s : State) (P : Params := Params.default) : Answer :=
  finish P (.sbcAR r) (s.alu .sbc (s.reg8 r))

/-- `SBC A,(HL)` (R204). -/
def execSbcAMemHl (s : State) (P : Params := Params.default) : Answer :=
  finish P .sbcAMemHl (s.alu .sbc (s.readByte s.hl))

/-- `SBC A,n` (R204). -/
def execSbcAN (n : Byte) (s : State) (P : Params := Params.default) : Answer := finish P (.sbcAN n) (s.alu .sbc n)

/-- `SBC A,IXH` (R204). -/
def execSbcAIxh (s : State) (P : Params := Params.default) : Answer := finish P .sbcAIxh (s.alu .sbc (s.xyh .ix))

/-- `SBC A,IXL` (R204). -/
def execSbcAIxl (s : State) (P : Params := Params.default) : Answer := finish P .sbcAIxl (s.alu .sbc (s.xyl .ix))

/-- `SBC A,(IX+d)` (R204). -/
def execSbcAMemIxd (d : Byte) (s : State) (P : Params := Params.default) : Answer :=
  finish P (.sbcAMemIxd d) (s.alu .sbc (s.readByte (s.ea .ix d)))

/-- `SBC A,IYH` (R204). -/
def execSbcAIyh (s : State) (P : Params := Params.default) : Answer := finish P .sbcAIyh (s.alu .sbc (s.xyh .iy))

/-- `SBC A,IYL` (R204). -/
def execSbcAIyl (s : State) (P : Params := Params.default) : Answer := finish P .sbcAIyl (s.alu .sbc (s.xyl .iy))

/-- `SBC A,(IY+d)` (R204). -/
def execSbcAMemIyd (d : Byte) (s : State) (P : Params := Params.default) : Answer :=
  finish P (.sbcAMemIyd d) (s.alu .sbc (s.readByte (s.ea .iy d)))

/-- `AND r` (R205). -/
def execAndR (r : Reg8) (s : State) (P : Params := Params.default) : Answer :=
  finish P (.andR r) (s.alu .and (s.reg8 r))

/-- `AND (HL)` (R205). -/
def execAndMemHl (s : State) (P : Params := Params.default) : Answer :=
  finish P .andMemHl (s.alu .and (s.readByte s.hl))

/-- `AND n` (R205). -/
def execAndN (n : Byte) (s : State) (P : Params := Params.default) : Answer := finish P (.andN n) (s.alu .and n)

/-- `AND IXH` (R205). -/
def execAndIxh (s : State) (P : Params := Params.default) : Answer := finish P .andIxh (s.alu .and (s.xyh .ix))

/-- `AND IXL` (R205). -/
def execAndIxl (s : State) (P : Params := Params.default) : Answer := finish P .andIxl (s.alu .and (s.xyl .ix))

/-- `AND (IX+d)` (R205). -/
def execAndMemIxd (d : Byte) (s : State) (P : Params := Params.default) : Answer :=
  finish P (.andMemIxd d) (s.alu .and (s.readByte (s.ea .ix d)))

/-- `AND IYH` (R205). -/
def execAndIyh (s : State) (P : Params := Params.default) : Answer := finish P .andIyh (s.alu .and (s.xyh .iy))

/-- `AND IYL` (R205). -/
def execAndIyl (s : State) (P : Params := Params.default) : Answer := finish P .andIyl (s.alu .and (s.xyl .iy))

/-- `AND (IY+d)` (R205). -/
def execAndMemIyd (d : Byte) (s : State) (P : Params := Params.default) : Answer :=
  finish P (.andMemIyd d) (s.alu .and (s.readByte (s.ea .iy d)))

/-- `XOR r` (R206). -/
def execXorR (r : Reg8) (s : State) (P : Params := Params.default) : Answer :=
  finish P (.xorR r) (s.alu .xor (s.reg8 r))

/-- `XOR (HL)` (R206). -/
def execXorMemHl (s : State) (P : Params := Params.default) : Answer :=
  finish P .xorMemHl (s.alu .xor (s.readByte s.hl))

/-- `XOR n` (R206). -/
def execXorN (n : Byte) (s : State) (P : Params := Params.default) : Answer := finish P (.xorN n) (s.alu .xor n)

/-- `XOR IXH` (R206). -/
def execXorIxh (s : State) (P : Params := Params.default) : Answer := finish P .xorIxh (s.alu .xor (s.xyh .ix))

/-- `XOR IXL` (R206). -/
def execXorIxl (s : State) (P : Params := Params.default) : Answer := finish P .xorIxl (s.alu .xor (s.xyl .ix))

/-- `XOR (IX+d)` (R206). -/
def execXorMemIxd (d : Byte) (s : State) (P : Params := Params.default) : Answer :=
  finish P (.xorMemIxd d) (s.alu .xor (s.readByte (s.ea .ix d)))

/-- `XOR IYH` (R206). -/
def execXorIyh (s : State) (P : Params := Params.default) : Answer := finish P .xorIyh (s.alu .xor (s.xyh .iy))

/-- `XOR IYL` (R206). -/
def execXorIyl (s : State) (P : Params := Params.default) : Answer := finish P .xorIyl (s.alu .xor (s.xyl .iy))

/-- `XOR (IY+d)` (R206). -/
def execXorMemIyd (d : Byte) (s : State) (P : Params := Params.default) : Answer :=
  finish P (.xorMemIyd d) (s.alu .xor (s.readByte (s.ea .iy d)))

/-- `OR r` (R207). -/
def execOrR (r : Reg8) (s : State) (P : Params := Params.default) : Answer := finish P (.orR r) (s.alu .or (s.reg8 r))

/-- `OR (HL)` (R207). -/
def execOrMemHl (s : State) (P : Params := Params.default) : Answer := finish P .orMemHl (s.alu .or (s.readByte s.hl))

/-- `OR n` (R207). -/
def execOrN (n : Byte) (s : State) (P : Params := Params.default) : Answer := finish P (.orN n) (s.alu .or n)

/-- `OR IXH` (R207). -/
def execOrIxh (s : State) (P : Params := Params.default) : Answer := finish P .orIxh (s.alu .or (s.xyh .ix))

/-- `OR IXL` (R207). -/
def execOrIxl (s : State) (P : Params := Params.default) : Answer := finish P .orIxl (s.alu .or (s.xyl .ix))

/-- `OR (IX+d)` (R207). -/
def execOrMemIxd (d : Byte) (s : State) (P : Params := Params.default) : Answer :=
  finish P (.orMemIxd d) (s.alu .or (s.readByte (s.ea .ix d)))

/-- `OR IYH` (R207). -/
def execOrIyh (s : State) (P : Params := Params.default) : Answer := finish P .orIyh (s.alu .or (s.xyh .iy))

/-- `OR IYL` (R207). -/
def execOrIyl (s : State) (P : Params := Params.default) : Answer := finish P .orIyl (s.alu .or (s.xyl .iy))

/-- `OR (IY+d)` (R207). -/
def execOrMemIyd (d : Byte) (s : State) (P : Params := Params.default) : Answer :=
  finish P (.orMemIyd d) (s.alu .or (s.readByte (s.ea .iy d)))

/-- `CP r` (R208). -/
def execCpR (r : Reg8) (s : State) (P : Params := Params.default) : Answer := finish P (.cpR r) (s.alu .cp (s.reg8 r))

/-- `CP (HL)` (R208). -/
def execCpMemHl (s : State) (P : Params := Params.default) : Answer := finish P .cpMemHl (s.alu .cp (s.readByte s.hl))

/-- `CP n` (R208). -/
def execCpN (n : Byte) (s : State) (P : Params := Params.default) : Answer := finish P (.cpN n) (s.alu .cp n)

/-- `CP IXH` (R208). -/
def execCpIxh (s : State) (P : Params := Params.default) : Answer := finish P .cpIxh (s.alu .cp (s.xyh .ix))

/-- `CP IXL` (R208). -/
def execCpIxl (s : State) (P : Params := Params.default) : Answer := finish P .cpIxl (s.alu .cp (s.xyl .ix))

/-- `CP (IX+d)` (R208). -/
def execCpMemIxd (d : Byte) (s : State) (P : Params := Params.default) : Answer :=
  finish P (.cpMemIxd d) (s.alu .cp (s.readByte (s.ea .ix d)))

/-- `CP IYH` (R208). -/
def execCpIyh (s : State) (P : Params := Params.default) : Answer := finish P .cpIyh (s.alu .cp (s.xyh .iy))

/-- `CP IYL` (R208). -/
def execCpIyl (s : State) (P : Params := Params.default) : Answer := finish P .cpIyl (s.alu .cp (s.xyl .iy))

/-- `CP (IY+d)` (R208). -/
def execCpMemIyd (d : Byte) (s : State) (P : Params := Params.default) : Answer :=
  finish P (.cpMemIyd d) (s.alu .cp (s.readByte (s.ea .iy d)))

/-! ## Increment and decrement -/

/-- `INC r` (R209). -/
def execIncR (r : Reg8) (s : State) (P : Params := Params.default) : Answer :=
  let p := inc8 (s.reg8 r) s.flags
  finish P (.incR r) ((s.setReg8 r p.1).setFlags p.2)

/-- `INC (HL)` (R210). -/
def execIncMemHl (s : State) (P : Params := Params.default) : Answer :=
  finish P .incMemHl (s.modifyMem s.hl (inc8 (s.readByte s.hl) s.flags))

/-- `INC IXH` (R211). -/
def execIncIxh (s : State) (P : Params := Params.default) : Answer :=
  let p := inc8 (s.xyh .ix) s.flags
  finish P .incIxh ((s.setXyh .ix p.1).setFlags p.2)

/-- `INC IXL` (R211). -/
def execIncIxl (s : State) (P : Params := Params.default) : Answer :=
  let p := inc8 (s.xyl .ix) s.flags
  finish P .incIxl ((s.setXyl .ix p.1).setFlags p.2)

/-- `INC (IX+d)` (R212). -/
def execIncMemIxd (d : Byte) (s : State) (P : Params := Params.default) : Answer :=
  finish P (.incMemIxd d) (s.modifyMem (s.ea .ix d) (inc8 (s.readByte (s.ea .ix d)) s.flags))

/-- `INC IYH` (R211). -/
def execIncIyh (s : State) (P : Params := Params.default) : Answer :=
  let p := inc8 (s.xyh .iy) s.flags
  finish P .incIyh ((s.setXyh .iy p.1).setFlags p.2)

/-- `INC IYL` (R211). -/
def execIncIyl (s : State) (P : Params := Params.default) : Answer :=
  let p := inc8 (s.xyl .iy) s.flags
  finish P .incIyl ((s.setXyl .iy p.1).setFlags p.2)

/-- `INC (IY+d)` (R212). -/
def execIncMemIyd (d : Byte) (s : State) (P : Params := Params.default) : Answer :=
  finish P (.incMemIyd d) (s.modifyMem (s.ea .iy d) (inc8 (s.readByte (s.ea .iy d)) s.flags))

/-- `DEC r` (R213). -/
def execDecR (r : Reg8) (s : State) (P : Params := Params.default) : Answer :=
  let p := dec8 (s.reg8 r) s.flags
  finish P (.decR r) ((s.setReg8 r p.1).setFlags p.2)

/-- `DEC (HL)` (R214). -/
def execDecMemHl (s : State) (P : Params := Params.default) : Answer :=
  finish P .decMemHl (s.modifyMem s.hl (dec8 (s.readByte s.hl) s.flags))

/-- `DEC IXH` (R215). -/
def execDecIxh (s : State) (P : Params := Params.default) : Answer :=
  let p := dec8 (s.xyh .ix) s.flags
  finish P .decIxh ((s.setXyh .ix p.1).setFlags p.2)

/-- `DEC IXL` (R215). -/
def execDecIxl (s : State) (P : Params := Params.default) : Answer :=
  let p := dec8 (s.xyl .ix) s.flags
  finish P .decIxl ((s.setXyl .ix p.1).setFlags p.2)

/-- `DEC (IX+d)` (R216). -/
def execDecMemIxd (d : Byte) (s : State) (P : Params := Params.default) : Answer :=
  finish P (.decMemIxd d) (s.modifyMem (s.ea .ix d) (dec8 (s.readByte (s.ea .ix d)) s.flags))

/-- `DEC IYH` (R215). -/
def execDecIyh (s : State) (P : Params := Params.default) : Answer :=
  let p := dec8 (s.xyh .iy) s.flags
  finish P .decIyh ((s.setXyh .iy p.1).setFlags p.2)

/-- `DEC IYL` (R215). -/
def execDecIyl (s : State) (P : Params := Params.default) : Answer :=
  let p := dec8 (s.xyl .iy) s.flags
  finish P .decIyl ((s.setXyl .iy p.1).setFlags p.2)

/-- `DEC (IY+d)` (R216). -/
def execDecMemIyd (d : Byte) (s : State) (P : Params := Params.default) : Answer :=
  finish P (.decMemIyd d) (s.modifyMem (s.ea .iy d) (dec8 (s.readByte (s.ea .iy d)) s.flags))

/-! ## Accumulator adjust and complement -/

/-- `DAA` (R217). -/
def execDaa (s : State) (P : Params := Params.default) : Answer :=
  finish P .daa (s.setAcc (Sys2Proof.Machine.daa s.a s.flags))

/-- `CPL` (R218). -/
def execCpl (s : State) (P : Params := Params.default) : Answer := finish P .cpl (s.setAcc (cpl8 s.a s.flags))

/-- `NEG` (R219). -/
def execNeg (s : State) (P : Params := Params.default) : Answer := finish P .neg (s.setAcc (neg8 s.a))

/-- `CCF` (R220). -/
def execCcf (s : State) (P : Params := Params.default) : Answer := finish P .ccf (s.setFlags (ccf8 s.a s.flags))

/-- `SCF` (R221). -/
def execScf (s : State) (P : Params := Params.default) : Answer := finish P .scf (s.setFlags (scf8 s.a s.flags))

end Sys2Proof.Machine
end

