-- ==== Sys2Proof/Machine/Block.lean ====
section
/-! DEFINITION. Block transfer, compare and I/O (47_block.md R300 to R316). -/

namespace Sys2Proof.Machine

/-- The direction of a block instruction: bit 3 of its operation byte selects decrement. -/
inductive BlockDir where
  | up | down
  deriving DecidableEq, Repr

/-- An address register moved by one in the direction of the block instruction; it wraps. -/
def BlockDir.move (dir : BlockDir) (w : Word) : Word :=
  match dir with
  | .up => w + 1
  | .down => w - 1

/-! ## The bodies (R300 to R307) -/

/-- The body of LDI and LDD (R300, R301). -/
def State.ldStep (s : State) (dir : BlockDir) : State :=
  let bc := s.bc - 1
  ((((s.writeByte s.de (s.readByte s.hl)).setDe (dir.move s.de)).setHl (dir.move s.hl)).setBc bc).setFlags
    (ldBlockFlags bc s.flags)

/-- The body of CPI and CPD (R302, R303). -/
def State.cpStep (s : State) (dir : BlockDir) : State :=
  let bc := s.bc - 1
  ((s.setHl (dir.move s.hl)).setBc bc).setFlags (cpBlockFlags s.a (s.readByte s.hl) bc s.flags)

/-- The body of INI and IND (R304, R305): the port is BC before the decrement; `carry` is `IO_BLOCK_CARRY`. -/
def State.inStep (s : State) (carry : Bool) (dir : BlockDir) : State :=
  let v := s.portValue s.bc
  let t := ({ (s.recordIn s.bc v).writeByte s.hl v with b := s.b - 1 }).setHl (dir.move s.hl)
  t.setFlags (ioBlockFlags carry (s.b - 1) s.flags)

/-- The body of OUTI and OUTD (R306, R307): the port is BC after the decrement. -/
def State.outStep (s : State) (carry : Bool) (dir : BlockDir) : State :=
  let v := s.readByte s.hl
  let t := { s with b := s.b - 1 }
  ((t.portOut t.bc v).setHl (dir.move s.hl)).setFlags (ioBlockFlags carry (s.b - 1) s.flags)

/-! ## The repeat loop (R308) -/

/-- By how much an iteration advances R (R308): `mode` is `BLOCK_R_MODE`. -/
def blockIncR (mode : BlockRMode) (first : Bool) : Nat :=
  match mode, first with
  | .doc, _ => 1
  | .refetch, true => 0
  | .refetch, false => 2

/-- The loop of R308 from the state `s`, whose budget is `b0`, with `total` cycles of earlier iterations: one iteration,
then the end, the interrupt checkpoint (PC back at the instruction's first byte) or the next iteration. `costs` is
the table entry. `fuel` bounds the iterations; iterations16 and iterations8 give enough (log 12). -/
def repeatLoop (costs : Cycles) (mode : BlockRMode) (body : State → State) (ended : State → Bool) :
    Nat → Bool → Nat → State → State
  | 0, _, total, s => s.charge total
  | fuel + 1, first, total, s =>
    let t := body (s.incR (blockIncR mode first))
    if ended t then t.charge (total + costs.cost false)
    else
      let total' := total + costs.cost true
      if 0 ≤ t.budget + total' then { t with pc := t.pc - 2 }.charge total'
      else repeatLoop costs mode body ended fuel false total' t

/-- The iterations a 16-bit counter allows: 0 counts as 65536 (R309). -/
def iterations16 (w : Word) : Nat := if w = 0 then 65536 else w.toNat

/-- The iterations an 8-bit counter allows: 0 counts as 256 (R313). -/
def iterations8 (v : Byte) : Nat := if v = 0 then 256 else v.toNat

/-- LDIR and LDDR end when BC is 0 (R308). -/
def State.ldEnded (s : State) : Bool := s.bc == 0

/-- CPIR and CPDR end when BC is 0 or on a match (R308). -/
def State.cpEnded (s : State) : Bool := s.bc == 0 || s.flags.z

/-- INIR, INDR, OTIR and OTDR end when B is 0 (R308). -/
def State.ioEnded (s : State) : Bool := s.b == 0

/-- LDIR and LDDR (R309, R310). -/
def State.ldRepeat (s : State) (costs : Cycles) (mode : BlockRMode) (dir : BlockDir) : State :=
  repeatLoop costs mode (·.ldStep dir) State.ldEnded (iterations16 s.bc) true 0 s

/-- CPIR and CPDR (R311, R312). -/
def State.cpRepeat (s : State) (costs : Cycles) (mode : BlockRMode) (dir : BlockDir) : State :=
  repeatLoop costs mode (·.cpStep dir) State.cpEnded (iterations16 s.bc) true 0 s

/-- At the end of a repeat form of a block I/O instruction, checkpoint included, PV = (B ≠ 0) (R313, D28). -/
def State.setPvFromB (s : State) : State := s.setFlags { s.flags with pv := s.b != 0 }

/-- INIR and INDR (R313, R314). -/
def State.inRepeat (s : State) (carry : Bool) (costs : Cycles) (mode : BlockRMode) (dir : BlockDir) : State :=
  (repeatLoop costs mode (·.inStep carry dir) State.ioEnded (iterations8 s.b) true 0 s).setPvFromB

/-- OTIR and OTDR (R315, R316). -/
def State.outRepeat (s : State) (carry : Bool) (costs : Cycles) (mode : BlockRMode) (dir : BlockDir) : State :=
  (repeatLoop costs mode (·.outStep carry dir) State.ioEnded (iterations8 s.b) true 0 s).setPvFromB

/-! ## The single steps -/

/-- `LDI` (R300). -/
def execLdi (s : State) (P : Params := Params.default) : Answer := finish P .ldi (s.ldStep .up)

/-- `LDD` (R301). -/
def execLdd (s : State) (P : Params := Params.default) : Answer := finish P .ldd (s.ldStep .down)

/-- `CPI` (R302). -/
def execCpi (s : State) (P : Params := Params.default) : Answer := finish P .cpi (s.cpStep .up)

/-- `CPD` (R303). -/
def execCpd (s : State) (P : Params := Params.default) : Answer := finish P .cpd (s.cpStep .down)

/-- `INI` (R304). -/
def execIni (s : State) (P : Params := Params.default) : Answer := finish P .ini (s.inStep Config.ioBlockCarry .up)

/-- `IND` (R305). -/
def execInd (s : State) (P : Params := Params.default) : Answer := finish P .ind (s.inStep Config.ioBlockCarry .down)

/-- `OUTI` (R306). -/
def execOuti (s : State) (P : Params := Params.default) : Answer := finish P .outi (s.outStep Config.ioBlockCarry .up)

/-- `OUTD` (R307). -/
def execOutd (s : State) (P : Params := Params.default) : Answer := finish P .outd (s.outStep Config.ioBlockCarry .down)

/-! ## The repeat forms -/

/-- `LDIR` (R309). -/
def execLdir (s : State) (P : Params := Params.default) : Answer := .next (s.ldRepeat blockCosts P.blockRMode .up)

/-- `LDDR` (R310). -/
def execLddr (s : State) (P : Params := Params.default) : Answer := .next (s.ldRepeat blockCosts P.blockRMode .down)

/-- `CPIR` (R311). -/
def execCpir (s : State) (P : Params := Params.default) : Answer := .next (s.cpRepeat blockCosts P.blockRMode .up)

/-- `CPDR` (R312). -/
def execCpdr (s : State) (P : Params := Params.default) : Answer := .next (s.cpRepeat blockCosts P.blockRMode .down)

/-- `INIR` (R313). -/
def execInir (s : State) (P : Params := Params.default) : Answer :=
  .next (s.inRepeat Config.ioBlockCarry blockCosts P.blockRMode .up)

/-- `INDR` (R314). -/
def execIndr (s : State) (P : Params := Params.default) : Answer :=
  .next (s.inRepeat Config.ioBlockCarry blockCosts P.blockRMode .down)

/-- `OTIR` (R315). -/
def execOtir (s : State) (P : Params := Params.default) : Answer :=
  .next (s.outRepeat Config.ioBlockCarry blockCosts P.blockRMode .up)

/-- `OTDR` (R316). -/
def execOtdr (s : State) (P : Params := Params.default) : Answer :=
  .next (s.outRepeat Config.ioBlockCarry blockCosts P.blockRMode .down)

end Sys2Proof.Machine
end

