-- ==== Sys2Proof/Machine/Control.lean ====
section
/-! DEFINITION. Control transfer (46_control.md R270 to R284). PC stands just past the instruction when its meaning begins (10_state.md R30). -/

namespace Sys2Proof.Machine

/-- The relative jump `PC <- trunc_16(PC + e)` from the address after the instruction (R272). -/
def State.jumpRel (s : State) (e : Byte) : State := { s with pc := addOffset s.pc e }

/-- `Push16(PC); PC <- target` (R277, R281). -/
def State.callTo (s : State) (target : Word) : State := { s.push16 s.pc with pc := target }

/-- `JP nn` (R270). -/
def execJpNn (nn : Word) (s : State) (P : Params := Params.default) : Answer := finish P (.jpNn nn) { s with pc := nn }

/-- `JP cc,nn` (R271). -/
def execJpCcNn (cc : Cond) (nn : Word) (s : State) (P : Params := Params.default) : Answer :=
  finishBranch P (.jpCcNn cc nn) (s.cond cc) (if s.cond cc then { s with pc := nn } else s)

/-- `JR e` (R272). -/
def execJrE (e : Byte) (s : State) (P : Params := Params.default) : Answer := finish P (.jrE e) (s.jumpRel e)

/-- `JR cc,e` (R273). -/
def execJrCcE (cc : Cond) (e : Byte) (s : State) (P : Params := Params.default) : Answer :=
  finishBranch P (.jrCcE cc e) (s.cond cc) (if s.cond cc then s.jumpRel e else s)

/-- `JP (HL)` (R274). -/
def execJpHl (s : State) (P : Params := Params.default) : Answer := finish P .jpHl { s with pc := s.hl }

/-- `JP (IX)` (R275). -/
def execJpIx (s : State) (P : Params := Params.default) : Answer := finish P .jpIx { s with pc := s.xy .ix }

/-- `JP (IY)` (R275). -/
def execJpIy (s : State) (P : Params := Params.default) : Answer := finish P .jpIy { s with pc := s.xy .iy }

/-- `DJNZ e` (R276). The decrement does not touch F. -/
def execDjnzE (e : Byte) (s : State) (P : Params := Params.default) : Answer :=
  let t := { s with b := s.b - 1 }
  finishBranch P (.djnzE e) (t.b != 0) (if t.b != 0 then t.jumpRel e else t)

/-- `CALL nn` (R277). -/
def execCallNn (nn : Word) (s : State) (P : Params := Params.default) : Answer := finish P (.callNn nn) (s.callTo nn)

/-- `CALL cc,nn` (R278). -/
def execCallCcNn (cc : Cond) (nn : Word) (s : State) (P : Params := Params.default) : Answer :=
  finishBranch P (.callCcNn cc nn) (s.cond cc) (if s.cond cc then s.callTo nn else s)

/-- `RET` (R279). -/
def execRet (s : State) (P : Params := Params.default) : Answer := finish P .ret s.popPc

/-- `RET cc` (R280). -/
def execRetCc (cc : Cond) (s : State) (P : Params := Params.default) : Answer :=
  finishBranch P (.retCc cc) (s.cond cc) (if s.cond cc then s.popPc else s)

/-- `RST p` (R281). -/
def execRstP (p : Byte) (s : State) (P : Params := Params.default) : Answer :=
  finish P (.rstP p) (s.callTo (wordOf 0 p))

/-- `RETN` (R282). -/
def execRetn (s : State) (P : Params := Params.default) : Answer := finish P .retn { s with iff1 := s.iff2 }.popPc

/-- RETI with the parameter `RETI_RESTORES_IFF1` as `restores` (R283). -/
def State.retiWith (s : State) (restores : Bool) : State :=
  { s with iff1 := if restores then s.iff2 else s.iff1 }.popPc

/-- `RETI` (R283). -/
def execReti (s : State) (P : Params := Params.default) : Answer := finish P .reti (s.retiWith P.retiRestoresIff1)

end Sys2Proof.Machine
end

