-- ==== Sys2Proof/WellFormed.lean ====
section
/-! DEFINITION. Which terms of Instr are instructions with an encoding of their own: the operand ranges that the
types of Syntax.lean do not already carry. -/

namespace Sys2Proof

/-- The condition field of JR cc,e has two bits: only NZ, Z, NC and C exist (46_control.md R273). -/
def Cond.isJrCond : Cond → Bool
  | .nz | .z | .nc | .c => true
  | .po | .pe | .p | .m => false

/-- A restart target is `8·y` (46_control.md R281): bits 7, 6, 2, 1 and 0 are clear. -/
def isRstTarget (p : Byte) : Bool := p &&& 0xC7 == 0

/-- LD r,XYH and LD r,XYL with r = H or L do not exist: field values 4 and 5 are XYH and XYL there
(41_load8.md R149). -/
def Reg8.besideHalf : Reg8 → Bool
  | .b | .c | .d | .e | .a => true
  | .h | .l => false

/-- The bytes after 0xED that are an "ED NOP" (48_io_cpu_control.md R336): ED 00–3F, 77, 7F, 80–9F, A4–A7,
AC–AF, B4–B7, BC–BF and C0–FF. -/
def isEdNop (op : Byte) : Bool :=
  op ≤ 0x3F || op == 0x77 || op == 0x7F || (0x80 ≤ op && op ≤ 0x9F) || (0xA4 ≤ op && op ≤ 0xA7) ||
  (0xAC ≤ op && op ≤ 0xAF) || (0xB4 ≤ op && op ≤ 0xB7) || (0xBC ≤ op && op ≤ 0xBF) || 0xC0 ≤ op

/-- Well-formed instructions. The six decode transitions of R71 (a prefix byte that selects a context) are rows of
the table but "never stand on their own as an instruction": log 9. -/
def Instr.wellFormed : Instr → Bool
  | .jrCcE cc _ => cc.isJrCond
  | .rstP p => isRstTarget p
  | .ldRIxh r => r.besideHalf
  | .ldRIxl r => r.besideHalf
  | .ldRIyh r => r.besideHalf
  | .ldRIyl r => r.besideHalf
  | .edNop op => isEdNop op
  | .prefixCb | .prefixEd | .prefixDd | .prefixFd | .prefixDdCb | .prefixFdCb => false
  | .nop | .ldDdNn _ _ | .ldMemBcA | .ldMemDeA | .incSs _ | .incR _ | .incMemHl | .decR _ | .decMemHl
  | .ldRN _ _ | .ldMemHlN _ | .rlca | .rrca | .rla | .rra | .exAfAf | .addHlSs _ | .ldAMemBc | .ldAMemDe
  | .decSs _ | .djnzE _ | .jrE _ | .ldMemNnHl _ | .ldHlMemNn _ | .daa | .cpl | .scf | .ccf | .ldMemNnA _
  | .ldAMemNn _ | .ldRR _ _ | .ldRMemHl _ | .ldMemHlR _ | .halt | .addAR _ | .addAMemHl | .addAN _
  | .adcAR _ | .adcAMemHl | .adcAN _ | .subR _ | .subMemHl | .subN _ | .sbcAR _ | .sbcAMemHl | .sbcAN _
  | .andR _ | .andMemHl | .andN _ | .xorR _ | .xorMemHl | .xorN _ | .orR _ | .orMemHl | .orN _ | .cpR _
  | .cpMemHl | .cpN _ | .retCc _ | .popQq _ | .jpCcNn _ _ | .jpNn _ | .callCcNn _ _ | .pushQq _ | .ret
  | .callNn _ | .outPortNA _ | .inAPortN _ | .exx | .exMemSpHl | .jpHl | .exDeHl | .di | .ei | .ldSpHl
  | .rlcR _ | .rlcMemHl | .rrcR _ | .rrcMemHl | .rlR _ | .rlMemHl | .rrR _ | .rrMemHl | .slaR _ | .slaMemHl
  | .sraR _ | .sraMemHl | .slsR _ | .slsMemHl | .srlR _ | .srlMemHl | .bitBR _ _ | .bitBMemHl _
  | .resBR _ _ | .resBMemHl _ | .setBR _ _ | .setBMemHl _ | .inRPortC _ | .inPortC | .outPortCR _
  | .outPortCZero | .sbcHlSs _ | .adcHlSs _ | .ldMemNnDd _ _ | .ldDdMemNn _ _ | .neg | .retn | .reti | .im0
  | .im1 | .im2 | .ldIA | .ldRA | .ldAI | .ldAR | .rrd | .rld | .ldi | .cpi | .ini | .outi | .ldd | .cpd
  | .ind | .outd | .ldir | .cpir | .inir | .otir | .lddr | .cpdr | .indr | .otdr | .addIxPp _ | .ldIxNn _
  | .ldMemNnIx _ | .ldIxMemNn _ | .incIx | .decIx | .incIxh | .incIxl | .decIxh | .decIxl | .ldIxhN _
  | .ldIxlN _ | .incMemIxd _ | .decMemIxd _ | .ldMemIxdN _ _ | .ldIxhR _ | .ldIxlR _ | .ldRMemIxd _ _
  | .ldMemIxdR _ _ | .addAIxh | .addAIxl | .addAMemIxd _ | .adcAIxh | .adcAIxl | .adcAMemIxd _ | .subIxh
  | .subIxl | .subMemIxd _ | .sbcAIxh | .sbcAIxl | .sbcAMemIxd _ | .andIxh | .andIxl | .andMemIxd _
  | .xorIxh | .xorIxl | .xorMemIxd _ | .orIxh | .orIxl | .orMemIxd _ | .cpIxh | .cpIxl | .cpMemIxd _
  | .popIx | .exMemSpIx | .pushIx | .jpIx | .ldSpIx | .lonePrefixDd | .addIyPp _ | .ldIyNn _ | .ldMemNnIy _
  | .ldIyMemNn _ | .incIy | .decIy | .incIyh | .incIyl | .decIyh | .decIyl | .ldIyhN _ | .ldIylN _
  | .incMemIyd _ | .decMemIyd _ | .ldMemIydN _ _ | .ldIyhR _ | .ldIylR _ | .ldRMemIyd _ _ | .ldMemIydR _ _
  | .addAIyh | .addAIyl | .addAMemIyd _ | .adcAIyh | .adcAIyl | .adcAMemIyd _ | .subIyh | .subIyl
  | .subMemIyd _ | .sbcAIyh | .sbcAIyl | .sbcAMemIyd _ | .andIyh | .andIyl | .andMemIyd _ | .xorIyh
  | .xorIyl | .xorMemIyd _ | .orIyh | .orIyl | .orMemIyd _ | .cpIyh | .cpIyl | .cpMemIyd _ | .popIy
  | .exMemSpIy | .pushIy | .jpIy | .ldSpIy | .lonePrefixFd | .rlcMemIxd _ | .rlcMemIxdR _ _ | .rrcMemIxd _
  | .rrcMemIxdR _ _ | .rlMemIxd _ | .rlMemIxdR _ _ | .rrMemIxd _ | .rrMemIxdR _ _ | .slaMemIxd _
  | .slaMemIxdR _ _ | .sraMemIxd _ | .sraMemIxdR _ _ | .slsMemIxd _ | .slsMemIxdR _ _ | .srlMemIxd _
  | .srlMemIxdR _ _ | .bitBMemIxd _ _ | .resBMemIxd _ _ | .resBMemIxdR _ _ _ | .setBMemIxd _ _
  | .setBMemIxdR _ _ _ | .rlcMemIyd _ | .rlcMemIydR _ _ | .rrcMemIyd _ | .rrcMemIydR _ _ | .rlMemIyd _
  | .rlMemIydR _ _ | .rrMemIyd _ | .rrMemIydR _ _ | .slaMemIyd _ | .slaMemIydR _ _ | .sraMemIyd _
  | .sraMemIydR _ _ | .slsMemIyd _ | .slsMemIydR _ _ | .srlMemIyd _ | .srlMemIydR _ _ | .bitBMemIyd _ _
  | .resBMemIyd _ _ | .resBMemIydR _ _ _ | .setBMemIyd _ _ | .setBMemIydR _ _ _ => true

end Sys2Proof
end

