-- ==== Sys2Proof/Decode.lean ====
section
/-! DEFINITION. The decoder (30_encoding.md R70 to R97) and, after it, the encoder. The decoder reads the bytes
from the program counter on and gives the instruction, its length and its number of M1 fetches; every byte
sequence decodes (R92, R97). -/

namespace Sys2Proof

/-! ## The field tables -/

/-- The r-table (R77); 6 is the memory operand. -/
def reg8OfField : Fin 8 → Option Reg8
  | 0 => some .b | 1 => some .c | 2 => some .d | 3 => some .e | 4 => some .h | 5 => some .l | 6 => none | 7 => some .a

def Reg8.field : Reg8 → Fin 8
  | .b => 0 | .c => 1 | .d => 2 | .e => 3 | .h => 4 | .l => 5 | .a => 7

/-- The Indexed r-table (R77, R79); 6 is the memory operand. -/
def regXOfField : Fin 8 → Option RegX
  | 0 => some .b | 1 => some .c | 2 => some .d | 3 => some .e | 4 => some .xyh | 5 => some .xyl | 6 => none | 7 => some .a

def RegX.field : RegX → Fin 8
  | .b => 0 | .c => 1 | .d => 2 | .e => 3 | .xyh => 4 | .xyl => 5 | .a => 7

/-- The rp-table (R78). -/
def pairOfField : Fin 4 → Pair
  | 0 => .bc | 1 => .de | 2 => .hl | 3 => .sp

def Pair.field : Pair → Fin 4
  | .bc => 0 | .de => 1 | .hl => 2 | .sp => 3

/-- The rp2-table (R78). -/
def pairQOfField : Fin 4 → PairQ
  | 0 => .bc | 1 => .de | 2 => .hl | 3 => .af

def PairQ.field : PairQ → Fin 4
  | .bc => 0 | .de => 1 | .hl => 2 | .af => 3

/-- The Indexed rp-table (R78). -/
def pairXOfField : Fin 4 → PairX
  | 0 => .bc | 1 => .de | 2 => .xy | 3 => .sp

def PairX.field : PairX → Fin 4
  | .bc => 0 | .de => 1 | .xy => 2 | .sp => 3

/-- The cc-table (R80). -/
def condOfField : Fin 8 → Cond
  | 0 => .nz | 1 => .z | 2 => .nc | 3 => .c | 4 => .po | 5 => .pe | 6 => .p | 7 => .m

def Cond.field : Cond → Fin 8
  | .nz => 0 | .z => 1 | .nc => 2 | .c => 3 | .po => 4 | .pe => 5 | .p => 6 | .m => 7

/-- The alu-table (R81). -/
def aluOfField : Fin 8 → AluOp
  | 0 => .add | 1 => .adc | 2 => .sub | 3 => .sbc | 4 => .and | 5 => .xor | 6 => .or | 7 => .cp

/-- The rot-table (R82). -/
def rotOfField : Fin 8 → RotOp
  | 0 => .rlc | 1 => .rrc | 2 => .rl | 3 => .rr | 4 => .sla | 5 => .sra | 6 => .sls | 7 => .srl

/-- The form of an indexed instruction for prefix 0xDD (IX) or 0xFD (IY) (R79). -/
def IdxReg.pick {α : Type} (x : IdxReg) (forIx forIy : α) : α :=
  match x with
  | .ix => forIx
  | .iy => forIy

/-! ## Rows selected by the alu-table and the rot-table -/

/-- `<op> r` (43_arith8.md R200). -/
def aluReg (r : Reg8) : AluOp → Instr
  | .add => .addAR r
  | .adc => .adcAR r
  | .sub => .subR r
  | .sbc => .sbcAR r
  | .and => .andR r
  | .xor => .xorR r
  | .or => .orR r
  | .cp => .cpR r

/-- `<op> (HL)` (R200). -/
def aluMemHl : AluOp → Instr
  | .add => .addAMemHl
  | .adc => .adcAMemHl
  | .sub => .subMemHl
  | .sbc => .sbcAMemHl
  | .and => .andMemHl
  | .xor => .xorMemHl
  | .or => .orMemHl
  | .cp => .cpMemHl

/-- `<op> n` (R200). -/
def aluImm (n : Byte) : AluOp → Instr
  | .add => .addAN n
  | .adc => .adcAN n
  | .sub => .subN n
  | .sbc => .sbcAN n
  | .and => .andN n
  | .xor => .xorN n
  | .or => .orN n
  | .cp => .cpN n

/-- `<op> XYH` (R200). -/
def aluXyh (x : IdxReg) : AluOp → Instr
  | .add => x.pick .addAIxh .addAIyh
  | .adc => x.pick .adcAIxh .adcAIyh
  | .sub => x.pick .subIxh .subIyh
  | .sbc => x.pick .sbcAIxh .sbcAIyh
  | .and => x.pick .andIxh .andIyh
  | .xor => x.pick .xorIxh .xorIyh
  | .or => x.pick .orIxh .orIyh
  | .cp => x.pick .cpIxh .cpIyh

/-- `<op> XYL` (R200). -/
def aluXyl (x : IdxReg) : AluOp → Instr
  | .add => x.pick .addAIxl .addAIyl
  | .adc => x.pick .adcAIxl .adcAIyl
  | .sub => x.pick .subIxl .subIyl
  | .sbc => x.pick .sbcAIxl .sbcAIyl
  | .and => x.pick .andIxl .andIyl
  | .xor => x.pick .xorIxl .xorIyl
  | .or => x.pick .orIxl .orIyl
  | .cp => x.pick .cpIxl .cpIyl

/-- `<op> (XY+d)` (R200). -/
def aluMemXyd (x : IdxReg) (d : Byte) : AluOp → Instr
  | .add => x.pick (.addAMemIxd d) (.addAMemIyd d)
  | .adc => x.pick (.adcAMemIxd d) (.adcAMemIyd d)
  | .sub => x.pick (.subMemIxd d) (.subMemIyd d)
  | .sbc => x.pick (.sbcAMemIxd d) (.sbcAMemIyd d)
  | .and => x.pick (.andMemIxd d) (.andMemIyd d)
  | .xor => x.pick (.xorMemIxd d) (.xorMemIyd d)
  | .or => x.pick (.orMemIxd d) (.orMemIyd d)
  | .cp => x.pick (.cpMemIxd d) (.cpMemIyd d)

/-- `<rot> r` (45_rotate_bit.md R250 to R257). -/
def rotReg (r : Reg8) : RotOp → Instr
  | .rlc => .rlcR r
  | .rrc => .rrcR r
  | .rl => .rlR r
  | .rr => .rrR r
  | .sla => .slaR r
  | .sra => .sraR r
  | .sls => .slsR r
  | .srl => .srlR r

/-- `<rot> (HL)` (R250 to R257). -/
def rotMemHl : RotOp → Instr
  | .rlc => .rlcMemHl
  | .rrc => .rrcMemHl
  | .rl => .rlMemHl
  | .rr => .rrMemHl
  | .sla => .slaMemHl
  | .sra => .sraMemHl
  | .sls => .slsMemHl
  | .srl => .srlMemHl

/-- `<rot> (XY+d)` (R262). -/
def rotMemXyd (x : IdxReg) (d : Byte) : RotOp → Instr
  | .rlc => x.pick (.rlcMemIxd d) (.rlcMemIyd d)
  | .rrc => x.pick (.rrcMemIxd d) (.rrcMemIyd d)
  | .rl => x.pick (.rlMemIxd d) (.rlMemIyd d)
  | .rr => x.pick (.rrMemIxd d) (.rrMemIyd d)
  | .sla => x.pick (.slaMemIxd d) (.slaMemIyd d)
  | .sra => x.pick (.sraMemIxd d) (.sraMemIyd d)
  | .sls => x.pick (.slsMemIxd d) (.slsMemIyd d)
  | .srl => x.pick (.srlMemIxd d) (.srlMemIyd d)

/-- `<rot> (XY+d),r` (R262). -/
def rotMemXydReg (x : IdxReg) (d : Byte) (r : Reg8) : RotOp → Instr
  | .rlc => x.pick (.rlcMemIxdR d r) (.rlcMemIydR d r)
  | .rrc => x.pick (.rrcMemIxdR d r) (.rrcMemIydR d r)
  | .rl => x.pick (.rlMemIxdR d r) (.rlMemIydR d r)
  | .rr => x.pick (.rrMemIxdR d r) (.rrMemIydR d r)
  | .sla => x.pick (.slaMemIxdR d r) (.slaMemIydR d r)
  | .sra => x.pick (.sraMemIxdR d r) (.sraMemIydR d r)
  | .sls => x.pick (.slsMemIxdR d r) (.slsMemIydR d r)
  | .srl => x.pick (.srlMemIxdR d r) (.srlMemIydR d r)

/-! ## The five contexts (R71) -/

/-- What a decoder finds: the instruction, how many bytes it fetches (R90), and how many of those fetches are
M1 fetches, each of which advances R (R72, R95). -/
structure Decoded where
  instr : Instr
  length : Nat
  m1 : Nat
  deriving DecidableEq, Repr

/-- The Bit-ops context (R84): the operation byte after 0xCB. -/
def decodeBitOps (op : Byte) : Decoded :=
  let i : Instr :=
    match opX op, reg8OfField (opZ op) with
    | 0, some r => rotReg r (rotOfField (opY op))
    | 0, none => rotMemHl (rotOfField (opY op))
    | 1, some r => .bitBR (opY op) r
    | 1, none => .bitBMemHl (opY op)
    | 2, some r => .resBR (opY op) r
    | 2, none => .resBMemHl (opY op)
    | 3, some r => .setBR (opY op) r
    | 3, none => .setBMemHl (opY op)
  ⟨i, 1, 1⟩

/-- The defined rows of the Extended context with x = 1 (R85): the operation byte after 0xED and the two bytes
after it. -/
def decodeExtended1 (op n1 n2 : Byte) : Decoded :=
  let pair := pairOfField (opP op)
  match opZ op with
  | 0 =>
    match reg8OfField (opY op) with
    | some r => ⟨.inRPortC r, 1, 1⟩
    | none => ⟨.inPortC, 1, 1⟩
  | 1 =>
    match reg8OfField (opY op) with
    | some r => ⟨.outPortCR r, 1, 1⟩
    | none => ⟨.outPortCZero, 1, 1⟩
  | 2 => if opQ op then ⟨.adcHlSs pair, 1, 1⟩ else ⟨.sbcHlSs pair, 1, 1⟩
  | 3 => if opQ op then ⟨.ldDdMemNn pair (wordOf n2 n1), 3, 1⟩ else ⟨.ldMemNnDd (wordOf n2 n1) pair, 3, 1⟩
  | 4 => ⟨.neg, 1, 1⟩
  | 5 => if opQ op then ⟨.reti, 1, 1⟩ else ⟨.retn, 1, 1⟩
  | 6 =>
    match opY op with
    | 0 | 1 | 4 | 5 => ⟨.im0, 1, 1⟩
    | 2 | 6 => ⟨.im1, 1, 1⟩
    | 3 | 7 => ⟨.im2, 1, 1⟩
  | 7 =>
    match opY op with
    | 0 => ⟨.ldIA, 1, 1⟩
    | 1 => ⟨.ldRA, 1, 1⟩
    | 2 => ⟨.ldAI, 1, 1⟩
    | 3 => ⟨.ldAR, 1, 1⟩
    | 4 => ⟨.rrd, 1, 1⟩
    | 5 => ⟨.rld, 1, 1⟩
    | 6 | 7 => ⟨.edNop op, 1, 1⟩

/-- The block instructions of the Extended context, x = 2 with y ≥ 4 and z ≤ 3 (R85, 47_block.md). -/
def decodeExtended2 (op : Byte) : Decoded :=
  let i : Instr :=
    match opY op, opZ op with
    | 4, 0 => .ldi | 4, 1 => .cpi | 4, 2 => .ini | 4, 3 => .outi
    | 5, 0 => .ldd | 5, 1 => .cpd | 5, 2 => .ind | 5, 3 => .outd
    | 6, 0 => .ldir | 6, 1 => .cpir | 6, 2 => .inir | 6, 3 => .otir
    | 7, 0 => .lddr | 7, 1 => .cpdr | 7, 2 => .indr | 7, 3 => .otdr
    | _, _ => .edNop op
  ⟨i, 1, 1⟩

/-- The Extended context (R85): every byte with no row of its own is an "ED NOP" (R336). -/
def decodeExtended (op n1 n2 : Byte) : Decoded :=
  match opX op with
  | 0 => ⟨.edNop op, 1, 1⟩
  | 1 => decodeExtended1 op n1 n2
  | 2 => decodeExtended2 op
  | 3 => ⟨.edNop op, 1, 1⟩

/-- The Indexed-bit-ops context (R88): the displacement, then the final operation byte, neither of them an M1
fetch. BIT ignores the field z (45_rotate_bit.md R263). -/
def decodeIndexedBitOps (x : IdxReg) (d op : Byte) : Decoded :=
  let y := opY op
  let i : Instr :=
    match opX op, reg8OfField (opZ op) with
    | 0, none => rotMemXyd x d (rotOfField y)
    | 0, some r => rotMemXydReg x d r (rotOfField y)
    | 1, _ => x.pick (.bitBMemIxd y d) (.bitBMemIyd y d)
    | 2, none => x.pick (.resBMemIxd y d) (.resBMemIyd y d)
    | 2, some r => x.pick (.resBMemIxdR y d r) (.resBMemIydR y d r)
    | 3, none => x.pick (.setBMemIxd y d) (.setBMemIyd y d)
    | 3, some r => x.pick (.setBMemIxdR y d r) (.setBMemIydR y d r)
  ⟨i, 2, 0⟩

/-- The prefix alone, where the byte after it has no indexed form: that byte is not fetched (R87). -/
def lonePrefix (x : IdxReg) : Decoded := ⟨x.pick .lonePrefixDd .lonePrefixFd, 0, 0⟩

/-- The rows 0x00 to 0x3F of the Indexed context (R86). -/
def decodeIndexed0 (x : IdxReg) (op n1 n2 : Byte) : Decoded :=
  let nn := wordOf n2 n1
  match opZ op, opY op with
  | 1, 1 | 1, 3 | 1, 5 | 1, 7 =>
    ⟨x.pick (.addIxPp (pairXOfField (opP op))) (.addIyPp (pairXOfField (opP op))), 1, 1⟩
  | 1, 4 => ⟨x.pick (.ldIxNn nn) (.ldIyNn nn), 3, 1⟩
  | 2, 4 => ⟨x.pick (.ldMemNnIx nn) (.ldMemNnIy nn), 3, 1⟩
  | 2, 5 => ⟨x.pick (.ldIxMemNn nn) (.ldIyMemNn nn), 3, 1⟩
  | 3, 4 => ⟨x.pick .incIx .incIy, 1, 1⟩
  | 3, 5 => ⟨x.pick .decIx .decIy, 1, 1⟩
  | 4, 4 => ⟨x.pick .incIxh .incIyh, 1, 1⟩
  | 4, 5 => ⟨x.pick .incIxl .incIyl, 1, 1⟩
  | 4, 6 => ⟨x.pick (.incMemIxd n1) (.incMemIyd n1), 2, 1⟩
  | 5, 4 => ⟨x.pick .decIxh .decIyh, 1, 1⟩
  | 5, 5 => ⟨x.pick .decIxl .decIyl, 1, 1⟩
  | 5, 6 => ⟨x.pick (.decMemIxd n1) (.decMemIyd n1), 2, 1⟩
  | 6, 4 => ⟨x.pick (.ldIxhN n1) (.ldIyhN n1), 2, 1⟩
  | 6, 5 => ⟨x.pick (.ldIxlN n1) (.ldIylN n1), 2, 1⟩
  | 6, 6 => ⟨x.pick (.ldMemIxdN n1 n2) (.ldMemIydN n1 n2), 3, 1⟩
  | _, _ => lonePrefix x

/-- The rows 0x40 to 0x7F of the Indexed context (R86): LD. Beside (XY+d) the fields 4 and 5 are the real H and L
(R89). -/
def decodeIndexed1 (x : IdxReg) (op d : Byte) : Decoded :=
  match regXOfField (opY op), regXOfField (opZ op) with
  | none, none => lonePrefix x
  | some _, none =>
    match reg8OfField (opY op) with
    | some r => ⟨x.pick (.ldRMemIxd r d) (.ldRMemIyd r d), 2, 1⟩
    | none => lonePrefix x
  | none, some _ =>
    match reg8OfField (opZ op) with
    | some r => ⟨x.pick (.ldMemIxdR d r) (.ldMemIydR d r), 2, 1⟩
    | none => lonePrefix x
  | some .xyh, some r => ⟨x.pick (.ldIxhR r) (.ldIyhR r), 1, 1⟩
  | some .xyl, some r => ⟨x.pick (.ldIxlR r) (.ldIylR r), 1, 1⟩
  | some .b, some .xyh => ⟨x.pick (.ldRIxh .b) (.ldRIyh .b), 1, 1⟩
  | some .c, some .xyh => ⟨x.pick (.ldRIxh .c) (.ldRIyh .c), 1, 1⟩
  | some .d, some .xyh => ⟨x.pick (.ldRIxh .d) (.ldRIyh .d), 1, 1⟩
  | some .e, some .xyh => ⟨x.pick (.ldRIxh .e) (.ldRIyh .e), 1, 1⟩
  | some .a, some .xyh => ⟨x.pick (.ldRIxh .a) (.ldRIyh .a), 1, 1⟩
  | some .b, some .xyl => ⟨x.pick (.ldRIxl .b) (.ldRIyl .b), 1, 1⟩
  | some .c, some .xyl => ⟨x.pick (.ldRIxl .c) (.ldRIyl .c), 1, 1⟩
  | some .d, some .xyl => ⟨x.pick (.ldRIxl .d) (.ldRIyl .d), 1, 1⟩
  | some .e, some .xyl => ⟨x.pick (.ldRIxl .e) (.ldRIyl .e), 1, 1⟩
  | some .a, some .xyl => ⟨x.pick (.ldRIxl .a) (.ldRIyl .a), 1, 1⟩
  | some _, some _ => lonePrefix x

/-- The rows 0x80 to 0xBF of the Indexed context (R86): the accumulator operations on XYH, XYL and (XY+d). -/
def decodeIndexed2 (x : IdxReg) (op d : Byte) : Decoded :=
  let f := aluOfField (opY op)
  match opZ op with
  | 4 => ⟨aluXyh x f, 1, 1⟩
  | 5 => ⟨aluXyl x f, 1, 1⟩
  | 6 => ⟨aluMemXyd x d f, 2, 1⟩
  | 0 | 1 | 2 | 3 | 7 => lonePrefix x

/-- The rows 0xC0 to 0xFF of the Indexed context (R86); 0xCB goes on to Indexed-bit-ops (R71). -/
def decodeIndexed3 (x : IdxReg) (op n1 n2 : Byte) : Decoded :=
  match opY op, opZ op with
  | 4, 1 => ⟨x.pick .popIx .popIy, 1, 1⟩
  | 4, 3 => ⟨x.pick .exMemSpIx .exMemSpIy, 1, 1⟩
  | 4, 5 => ⟨x.pick .pushIx .pushIy, 1, 1⟩
  | 5, 1 => ⟨x.pick .jpIx .jpIy, 1, 1⟩
  | 7, 1 => ⟨x.pick .ldSpIx .ldSpIy, 1, 1⟩
  | 1, 3 =>
    let d := decodeIndexedBitOps x n1 n2
    ⟨d.instr, d.length + 1, d.m1 + 1⟩
  | _, _ => lonePrefix x

/-- The Indexed context (R86): the byte after 0xDD or 0xFD and the two bytes after it. -/
def decodeIndexed (x : IdxReg) (op n1 n2 : Byte) : Decoded :=
  match opX op with
  | 0 => decodeIndexed0 x op n1 n2
  | 1 => decodeIndexed1 x op n1
  | 2 => decodeIndexed2 x op n1
  | 3 => decodeIndexed3 x op n1 n2

/-- The rows 0x00 to 0x3F of the Main context (R83). -/
def decodeMain0 (op n1 n2 : Byte) : Decoded :=
  let nn := wordOf n2 n1
  let pair := pairOfField (opP op)
  match opZ op with
  | 0 =>
    match opY op with
    | 0 => ⟨.nop, 1, 1⟩
    | 1 => ⟨.exAfAf, 1, 1⟩
    | 2 => ⟨.djnzE n1, 2, 1⟩
    | 3 => ⟨.jrE n1, 2, 1⟩
    | 4 => ⟨.jrCcE .nz n1, 2, 1⟩
    | 5 => ⟨.jrCcE .z n1, 2, 1⟩
    | 6 => ⟨.jrCcE .nc n1, 2, 1⟩
    | 7 => ⟨.jrCcE .c n1, 2, 1⟩
  | 1 => if opQ op then ⟨.addHlSs pair, 1, 1⟩ else ⟨.ldDdNn pair nn, 3, 1⟩
  | 2 =>
    match opY op with
    | 0 => ⟨.ldMemBcA, 1, 1⟩
    | 1 => ⟨.ldAMemBc, 1, 1⟩
    | 2 => ⟨.ldMemDeA, 1, 1⟩
    | 3 => ⟨.ldAMemDe, 1, 1⟩
    | 4 => ⟨.ldMemNnHl nn, 3, 1⟩
    | 5 => ⟨.ldHlMemNn nn, 3, 1⟩
    | 6 => ⟨.ldMemNnA nn, 3, 1⟩
    | 7 => ⟨.ldAMemNn nn, 3, 1⟩
  | 3 => if opQ op then ⟨.decSs pair, 1, 1⟩ else ⟨.incSs pair, 1, 1⟩
  | 4 =>
    match reg8OfField (opY op) with
    | some r => ⟨.incR r, 1, 1⟩
    | none => ⟨.incMemHl, 1, 1⟩
  | 5 =>
    match reg8OfField (opY op) with
    | some r => ⟨.decR r, 1, 1⟩
    | none => ⟨.decMemHl, 1, 1⟩
  | 6 =>
    match reg8OfField (opY op) with
    | some r => ⟨.ldRN r n1, 2, 1⟩
    | none => ⟨.ldMemHlN n1, 2, 1⟩
  | 7 =>
    match opY op with
    | 0 => ⟨.rlca, 1, 1⟩
    | 1 => ⟨.rrca, 1, 1⟩
    | 2 => ⟨.rla, 1, 1⟩
    | 3 => ⟨.rra, 1, 1⟩
    | 4 => ⟨.daa, 1, 1⟩
    | 5 => ⟨.cpl, 1, 1⟩
    | 6 => ⟨.scf, 1, 1⟩
    | 7 => ⟨.ccf, 1, 1⟩

/-- The rows 0x40 to 0x7F of the Main context (R83): LD between registers and (HL); 0x76 is HALT. -/
def decodeMain1 (op : Byte) : Decoded :=
  match reg8OfField (opY op), reg8OfField (opZ op) with
  | some r, some r' => ⟨.ldRR r r', 1, 1⟩
  | some r, none => ⟨.ldRMemHl r, 1, 1⟩
  | none, some r => ⟨.ldMemHlR r, 1, 1⟩
  | none, none => ⟨.halt, 1, 1⟩

/-- The rows 0x80 to 0xBF of the Main context (R83): the accumulator operations. -/
def decodeMain2 (op : Byte) : Decoded :=
  match reg8OfField (opZ op) with
  | some r => ⟨aluReg r (aluOfField (opY op)), 1, 1⟩
  | none => ⟨aluMemHl (aluOfField (opY op)), 1, 1⟩

/-- The rows 0xC0 to 0xFF of the Main context (R83), with the four prefix transitions (R71): a transition's
length and M1 fetch are added to those of the row it selects. -/
def decodeMain3 (op n1 n2 n3 : Byte) : Decoded :=
  let nn := wordOf n2 n1
  let cc := condOfField (opY op)
  let after (d : Decoded) : Decoded := ⟨d.instr, d.length + 1, d.m1 + 1⟩
  match opZ op with
  | 0 => ⟨.retCc cc, 1, 1⟩
  | 1 =>
    match opY op with
    | 0 | 2 | 4 | 6 => ⟨.popQq (pairQOfField (opP op)), 1, 1⟩
    | 1 => ⟨.ret, 1, 1⟩
    | 3 => ⟨.exx, 1, 1⟩
    | 5 => ⟨.jpHl, 1, 1⟩
    | 7 => ⟨.ldSpHl, 1, 1⟩
  | 2 => ⟨.jpCcNn cc nn, 3, 1⟩
  | 3 =>
    match opY op with
    | 0 => ⟨.jpNn nn, 3, 1⟩
    | 1 => after (decodeBitOps n1)
    | 2 => ⟨.outPortNA n1, 2, 1⟩
    | 3 => ⟨.inAPortN n1, 2, 1⟩
    | 4 => ⟨.exMemSpHl, 1, 1⟩
    | 5 => ⟨.exDeHl, 1, 1⟩
    | 6 => ⟨.di, 1, 1⟩
    | 7 => ⟨.ei, 1, 1⟩
  | 4 => ⟨.callCcNn cc nn, 3, 1⟩
  | 5 =>
    match opY op with
    | 0 | 2 | 4 | 6 => ⟨.pushQq (pairQOfField (opP op)), 1, 1⟩
    | 1 => ⟨.callNn nn, 3, 1⟩
    | 3 => after (decodeIndexed .ix n1 n2 n3)
    | 5 => after (decodeExtended n1 n2 n3)
    | 7 => after (decodeIndexed .iy n1 n2 n3)
  | 6 => ⟨aluImm n1 (aluOfField (opY op)), 2, 1⟩
  | 7 => ⟨.rstP (op &&& 0x38), 1, 1⟩

/-- The decoder (R71): the four bytes from the program counter on, of which the instruction takes the first
`length`. -/
def decodeBytes (b0 b1 b2 b3 : Byte) : Decoded :=
  match opX b0 with
  | 0 => decodeMain0 b0 b1 b2
  | 1 => decodeMain1 b0
  | 2 => decodeMain2 b0
  | 3 => decodeMain3 b0 b1 b2 b3

/-- How many bytes the decoder examines: a lone prefix is recognised by the byte after it (R71 item 4, R97). -/
def Decoded.examined (d : Decoded) : Nat :=
  if d.instr = .lonePrefixDd ∨ d.instr = .lonePrefixFd then d.length + 1 else d.length

/-- Why a list of bytes holds no whole instruction. The machine itself never meets this: memory goes on after
every address (R97; log 19). -/
inductive DecodeError where
  /-- The list ends before the last byte that the decoder must examine. -/
  | truncated
  deriving DecidableEq, Repr

/-- The decoder on a list of bytes: the instruction at its head, or `truncated`. -/
def decode : List Byte → Except DecodeError Decoded
  | [] => .error .truncated
  | b0 :: rest =>
    let d := decodeBytes b0 (rest.getD 0 0) (rest.getD 1 0) (rest.getD 2 0)
    if d.examined ≤ rest.length + 1 then .ok d else .error .truncated

/-- Byte `k` of an instruction whose first byte is the least significant. -/
def tableByte (w k : Nat) : Byte := BitVec.ofNat 8 (w / 256 ^ k)

/-- What the decoder reads from an instruction of `nbits` bits with the value `w`, its first byte the least
significant; every bit above `nbits` is 0. -/
def decodeTableWord (nbits w : Nat) : Option Instr :=
  let v := w % 2 ^ nbits
  match decode [tableByte v 0, tableByte v 1, tableByte v 2, tableByte v 3] with
  | .ok d => some d.instr
  | .error _ => none

/-! ## The encoder -/

/-- The field y of JR cc,e, `y - 4` being the condition (R80). -/
def Cond.jrField (cc : Cond) : Fin 8 := Fin.ofNat 8 (cc.field.val + 4)

/-- The bytes of an instruction in address order (R70), by the match, mask and field columns of
spec/opcode_table.json; of several encodings of one instruction, the documented one (R85, R263). A transition
row's own byte or bytes are its encoding. -/
def encode : Instr → List Byte
  | .nop => [0x00]
  | .ldDdNn dd nn => [opByteP 0 dd.field false 1, loByte nn, hiByte nn]
  | .ldMemBcA => [0x02]
  | .ldMemDeA => [0x12]
  | .incSs ss => [opByteP 0 ss.field false 3]
  | .incR r => [opByte 0 r.field 4]
  | .incMemHl => [0x34]
  | .decR r => [opByte 0 r.field 5]
  | .decMemHl => [0x35]
  | .ldRN r n => [opByte 0 r.field 6, n]
  | .ldMemHlN n => [0x36, n]
  | .rlca => [0x07]
  | .rrca => [0x0F]
  | .rla => [0x17]
  | .rra => [0x1F]
  | .exAfAf => [0x08]
  | .addHlSs ss => [opByteP 0 ss.field true 1]
  | .ldAMemBc => [0x0A]
  | .ldAMemDe => [0x1A]
  | .decSs ss => [opByteP 0 ss.field true 3]
  | .djnzE e => [0x10, e]
  | .jrE e => [0x18, e]
  | .jrCcE cc e => [opByte 0 cc.jrField 0, e]
  | .ldMemNnHl nn => [0x22, loByte nn, hiByte nn]
  | .ldHlMemNn nn => [0x2A, loByte nn, hiByte nn]
  | .daa => [0x27]
  | .cpl => [0x2F]
  | .scf => [0x37]
  | .ccf => [0x3F]
  | .ldMemNnA nn => [0x32, loByte nn, hiByte nn]
  | .ldAMemNn nn => [0x3A, loByte nn, hiByte nn]
  | .ldRR r r' => [opByte 1 r.field r'.field]
  | .ldRMemHl r => [opByte 1 r.field 6]
  | .ldMemHlR r => [opByte 1 6 r.field]
  | .halt => [0x76]
  | .addAR r => [opByte 2 0 r.field]
  | .addAMemHl => [0x86]
  | .addAN n => [0xC6, n]
  | .adcAR r => [opByte 2 1 r.field]
  | .adcAMemHl => [0x8E]
  | .adcAN n => [0xCE, n]
  | .subR r => [opByte 2 2 r.field]
  | .subMemHl => [0x96]
  | .subN n => [0xD6, n]
  | .sbcAR r => [opByte 2 3 r.field]
  | .sbcAMemHl => [0x9E]
  | .sbcAN n => [0xDE, n]
  | .andR r => [opByte 2 4 r.field]
  | .andMemHl => [0xA6]
  | .andN n => [0xE6, n]
  | .xorR r => [opByte 2 5 r.field]
  | .xorMemHl => [0xAE]
  | .xorN n => [0xEE, n]
  | .orR r => [opByte 2 6 r.field]
  | .orMemHl => [0xB6]
  | .orN n => [0xF6, n]
  | .cpR r => [opByte 2 7 r.field]
  | .cpMemHl => [0xBE]
  | .cpN n => [0xFE, n]
  | .retCc cc => [opByte 3 cc.field 0]
  | .popQq qq => [opByteP 3 qq.field false 1]
  | .jpCcNn cc nn => [opByte 3 cc.field 2, loByte nn, hiByte nn]
  | .jpNn nn => [0xC3, loByte nn, hiByte nn]
  | .callCcNn cc nn => [opByte 3 cc.field 4, loByte nn, hiByte nn]
  | .pushQq qq => [opByteP 3 qq.field false 5]
  | .rstP p => [0xC7 ||| p]
  | .ret => [0xC9]
  | .callNn nn => [0xCD, loByte nn, hiByte nn]
  | .outPortNA n => [0xD3, n]
  | .inAPortN n => [0xDB, n]
  | .exx => [0xD9]
  | .exMemSpHl => [0xE3]
  | .jpHl => [0xE9]
  | .exDeHl => [0xEB]
  | .di => [0xF3]
  | .ei => [0xFB]
  | .ldSpHl => [0xF9]
  | .prefixCb => [0xCB]
  | .prefixEd => [0xED]
  | .prefixDd => [0xDD]
  | .prefixFd => [0xFD]
  | .rlcR r => [0xCB, opByte 0 0 r.field]
  | .rlcMemHl => [0xCB, 0x06]
  | .rrcR r => [0xCB, opByte 0 1 r.field]
  | .rrcMemHl => [0xCB, 0x0E]
  | .rlR r => [0xCB, opByte 0 2 r.field]
  | .rlMemHl => [0xCB, 0x16]
  | .rrR r => [0xCB, opByte 0 3 r.field]
  | .rrMemHl => [0xCB, 0x1E]
  | .slaR r => [0xCB, opByte 0 4 r.field]
  | .slaMemHl => [0xCB, 0x26]
  | .sraR r => [0xCB, opByte 0 5 r.field]
  | .sraMemHl => [0xCB, 0x2E]
  | .slsR r => [0xCB, opByte 0 6 r.field]
  | .slsMemHl => [0xCB, 0x36]
  | .srlR r => [0xCB, opByte 0 7 r.field]
  | .srlMemHl => [0xCB, 0x3E]
  | .bitBR b r => [0xCB, opByte 1 b r.field]
  | .bitBMemHl b => [0xCB, opByte 1 b 6]
  | .resBR b r => [0xCB, opByte 2 b r.field]
  | .resBMemHl b => [0xCB, opByte 2 b 6]
  | .setBR b r => [0xCB, opByte 3 b r.field]
  | .setBMemHl b => [0xCB, opByte 3 b 6]
  | .inRPortC r => [0xED, opByte 1 r.field 0]
  | .inPortC => [0xED, 0x70]
  | .outPortCR r => [0xED, opByte 1 r.field 1]
  | .outPortCZero => [0xED, 0x71]
  | .sbcHlSs ss => [0xED, opByteP 1 ss.field false 2]
  | .adcHlSs ss => [0xED, opByteP 1 ss.field true 2]
  | .ldMemNnDd nn dd => [0xED, opByteP 1 dd.field false 3, loByte nn, hiByte nn]
  | .ldDdMemNn dd nn => [0xED, opByteP 1 dd.field true 3, loByte nn, hiByte nn]
  | .neg => [0xED, 0x44]
  | .retn => [0xED, 0x45]
  | .reti => [0xED, 0x4D]
  | .im0 => [0xED, 0x46]
  | .im1 => [0xED, 0x56]
  | .im2 => [0xED, 0x5E]
  | .ldIA => [0xED, 0x47]
  | .ldRA => [0xED, 0x4F]
  | .ldAI => [0xED, 0x57]
  | .ldAR => [0xED, 0x5F]
  | .rrd => [0xED, 0x67]
  | .rld => [0xED, 0x6F]
  | .ldi => [0xED, 0xA0]
  | .cpi => [0xED, 0xA1]
  | .ini => [0xED, 0xA2]
  | .outi => [0xED, 0xA3]
  | .ldd => [0xED, 0xA8]
  | .cpd => [0xED, 0xA9]
  | .ind => [0xED, 0xAA]
  | .outd => [0xED, 0xAB]
  | .ldir => [0xED, 0xB0]
  | .cpir => [0xED, 0xB1]
  | .inir => [0xED, 0xB2]
  | .otir => [0xED, 0xB3]
  | .lddr => [0xED, 0xB8]
  | .cpdr => [0xED, 0xB9]
  | .indr => [0xED, 0xBA]
  | .otdr => [0xED, 0xBB]
  | .edNop op => [0xED, op]
  | .addIxPp pp => [0xDD, opByteP 0 pp.field true 1]
  | .ldIxNn nn => [0xDD, 0x21, loByte nn, hiByte nn]
  | .ldMemNnIx nn => [0xDD, 0x22, loByte nn, hiByte nn]
  | .ldIxMemNn nn => [0xDD, 0x2A, loByte nn, hiByte nn]
  | .incIx => [0xDD, 0x23]
  | .decIx => [0xDD, 0x2B]
  | .incIxh => [0xDD, 0x24]
  | .incIxl => [0xDD, 0x2C]
  | .decIxh => [0xDD, 0x25]
  | .decIxl => [0xDD, 0x2D]
  | .ldIxhN n => [0xDD, 0x26, n]
  | .ldIxlN n => [0xDD, 0x2E, n]
  | .incMemIxd d => [0xDD, 0x34, d]
  | .decMemIxd d => [0xDD, 0x35, d]
  | .ldMemIxdN d n => [0xDD, 0x36, d, n]
  | .ldIxhR r => [0xDD, opByte 1 4 r.field]
  | .ldIxlR r => [0xDD, opByte 1 5 r.field]
  | .ldRIxh r => [0xDD, opByte 1 r.field 4]
  | .ldRIxl r => [0xDD, opByte 1 r.field 5]
  | .ldRMemIxd r d => [0xDD, opByte 1 r.field 6, d]
  | .ldMemIxdR d r => [0xDD, opByte 1 6 r.field, d]
  | .addAIxh => [0xDD, 0x84]
  | .addAIxl => [0xDD, 0x85]
  | .addAMemIxd d => [0xDD, 0x86, d]
  | .adcAIxh => [0xDD, 0x8C]
  | .adcAIxl => [0xDD, 0x8D]
  | .adcAMemIxd d => [0xDD, 0x8E, d]
  | .subIxh => [0xDD, 0x94]
  | .subIxl => [0xDD, 0x95]
  | .subMemIxd d => [0xDD, 0x96, d]
  | .sbcAIxh => [0xDD, 0x9C]
  | .sbcAIxl => [0xDD, 0x9D]
  | .sbcAMemIxd d => [0xDD, 0x9E, d]
  | .andIxh => [0xDD, 0xA4]
  | .andIxl => [0xDD, 0xA5]
  | .andMemIxd d => [0xDD, 0xA6, d]
  | .xorIxh => [0xDD, 0xAC]
  | .xorIxl => [0xDD, 0xAD]
  | .xorMemIxd d => [0xDD, 0xAE, d]
  | .orIxh => [0xDD, 0xB4]
  | .orIxl => [0xDD, 0xB5]
  | .orMemIxd d => [0xDD, 0xB6, d]
  | .cpIxh => [0xDD, 0xBC]
  | .cpIxl => [0xDD, 0xBD]
  | .cpMemIxd d => [0xDD, 0xBE, d]
  | .popIx => [0xDD, 0xE1]
  | .exMemSpIx => [0xDD, 0xE3]
  | .pushIx => [0xDD, 0xE5]
  | .jpIx => [0xDD, 0xE9]
  | .ldSpIx => [0xDD, 0xF9]
  | .prefixDdCb => [0xDD, 0xCB]
  | .lonePrefixDd => [0xDD]
  | .addIyPp pp => [0xFD, opByteP 0 pp.field true 1]
  | .ldIyNn nn => [0xFD, 0x21, loByte nn, hiByte nn]
  | .ldMemNnIy nn => [0xFD, 0x22, loByte nn, hiByte nn]
  | .ldIyMemNn nn => [0xFD, 0x2A, loByte nn, hiByte nn]
  | .incIy => [0xFD, 0x23]
  | .decIy => [0xFD, 0x2B]
  | .incIyh => [0xFD, 0x24]
  | .incIyl => [0xFD, 0x2C]
  | .decIyh => [0xFD, 0x25]
  | .decIyl => [0xFD, 0x2D]
  | .ldIyhN n => [0xFD, 0x26, n]
  | .ldIylN n => [0xFD, 0x2E, n]
  | .incMemIyd d => [0xFD, 0x34, d]
  | .decMemIyd d => [0xFD, 0x35, d]
  | .ldMemIydN d n => [0xFD, 0x36, d, n]
  | .ldIyhR r => [0xFD, opByte 1 4 r.field]
  | .ldIylR r => [0xFD, opByte 1 5 r.field]
  | .ldRIyh r => [0xFD, opByte 1 r.field 4]
  | .ldRIyl r => [0xFD, opByte 1 r.field 5]
  | .ldRMemIyd r d => [0xFD, opByte 1 r.field 6, d]
  | .ldMemIydR d r => [0xFD, opByte 1 6 r.field, d]
  | .addAIyh => [0xFD, 0x84]
  | .addAIyl => [0xFD, 0x85]
  | .addAMemIyd d => [0xFD, 0x86, d]
  | .adcAIyh => [0xFD, 0x8C]
  | .adcAIyl => [0xFD, 0x8D]
  | .adcAMemIyd d => [0xFD, 0x8E, d]
  | .subIyh => [0xFD, 0x94]
  | .subIyl => [0xFD, 0x95]
  | .subMemIyd d => [0xFD, 0x96, d]
  | .sbcAIyh => [0xFD, 0x9C]
  | .sbcAIyl => [0xFD, 0x9D]
  | .sbcAMemIyd d => [0xFD, 0x9E, d]
  | .andIyh => [0xFD, 0xA4]
  | .andIyl => [0xFD, 0xA5]
  | .andMemIyd d => [0xFD, 0xA6, d]
  | .xorIyh => [0xFD, 0xAC]
  | .xorIyl => [0xFD, 0xAD]
  | .xorMemIyd d => [0xFD, 0xAE, d]
  | .orIyh => [0xFD, 0xB4]
  | .orIyl => [0xFD, 0xB5]
  | .orMemIyd d => [0xFD, 0xB6, d]
  | .cpIyh => [0xFD, 0xBC]
  | .cpIyl => [0xFD, 0xBD]
  | .cpMemIyd d => [0xFD, 0xBE, d]
  | .popIy => [0xFD, 0xE1]
  | .exMemSpIy => [0xFD, 0xE3]
  | .pushIy => [0xFD, 0xE5]
  | .jpIy => [0xFD, 0xE9]
  | .ldSpIy => [0xFD, 0xF9]
  | .prefixFdCb => [0xFD, 0xCB]
  | .lonePrefixFd => [0xFD]
  | .rlcMemIxd d => [0xDD, 0xCB, d, 0x06]
  | .rlcMemIxdR d r => [0xDD, 0xCB, d, opByte 0 0 r.field]
  | .rrcMemIxd d => [0xDD, 0xCB, d, 0x0E]
  | .rrcMemIxdR d r => [0xDD, 0xCB, d, opByte 0 1 r.field]
  | .rlMemIxd d => [0xDD, 0xCB, d, 0x16]
  | .rlMemIxdR d r => [0xDD, 0xCB, d, opByte 0 2 r.field]
  | .rrMemIxd d => [0xDD, 0xCB, d, 0x1E]
  | .rrMemIxdR d r => [0xDD, 0xCB, d, opByte 0 3 r.field]
  | .slaMemIxd d => [0xDD, 0xCB, d, 0x26]
  | .slaMemIxdR d r => [0xDD, 0xCB, d, opByte 0 4 r.field]
  | .sraMemIxd d => [0xDD, 0xCB, d, 0x2E]
  | .sraMemIxdR d r => [0xDD, 0xCB, d, opByte 0 5 r.field]
  | .slsMemIxd d => [0xDD, 0xCB, d, 0x36]
  | .slsMemIxdR d r => [0xDD, 0xCB, d, opByte 0 6 r.field]
  | .srlMemIxd d => [0xDD, 0xCB, d, 0x3E]
  | .srlMemIxdR d r => [0xDD, 0xCB, d, opByte 0 7 r.field]
  | .bitBMemIxd b d => [0xDD, 0xCB, d, opByte 1 b 6]
  | .resBMemIxd b d => [0xDD, 0xCB, d, opByte 2 b 6]
  | .resBMemIxdR b d r => [0xDD, 0xCB, d, opByte 2 b r.field]
  | .setBMemIxd b d => [0xDD, 0xCB, d, opByte 3 b 6]
  | .setBMemIxdR b d r => [0xDD, 0xCB, d, opByte 3 b r.field]
  | .rlcMemIyd d => [0xFD, 0xCB, d, 0x06]
  | .rlcMemIydR d r => [0xFD, 0xCB, d, opByte 0 0 r.field]
  | .rrcMemIyd d => [0xFD, 0xCB, d, 0x0E]
  | .rrcMemIydR d r => [0xFD, 0xCB, d, opByte 0 1 r.field]
  | .rlMemIyd d => [0xFD, 0xCB, d, 0x16]
  | .rlMemIydR d r => [0xFD, 0xCB, d, opByte 0 2 r.field]
  | .rrMemIyd d => [0xFD, 0xCB, d, 0x1E]
  | .rrMemIydR d r => [0xFD, 0xCB, d, opByte 0 3 r.field]
  | .slaMemIyd d => [0xFD, 0xCB, d, 0x26]
  | .slaMemIydR d r => [0xFD, 0xCB, d, opByte 0 4 r.field]
  | .sraMemIyd d => [0xFD, 0xCB, d, 0x2E]
  | .sraMemIydR d r => [0xFD, 0xCB, d, opByte 0 5 r.field]
  | .slsMemIyd d => [0xFD, 0xCB, d, 0x36]
  | .slsMemIydR d r => [0xFD, 0xCB, d, opByte 0 6 r.field]
  | .srlMemIyd d => [0xFD, 0xCB, d, 0x3E]
  | .srlMemIydR d r => [0xFD, 0xCB, d, opByte 0 7 r.field]
  | .bitBMemIyd b d => [0xFD, 0xCB, d, opByte 1 b 6]
  | .resBMemIyd b d => [0xFD, 0xCB, d, opByte 2 b 6]
  | .resBMemIydR b d r => [0xFD, 0xCB, d, opByte 2 b r.field]
  | .setBMemIyd b d => [0xFD, 0xCB, d, opByte 3 b 6]
  | .setBMemIydR b d r => [0xFD, 0xCB, d, opByte 3 b r.field]

end Sys2Proof
end

