-- ==== Sys2Proof/Machine/Fetch.lean ====
section
/-! DEFINITION. Fetching an instruction's bytes at PC (30_encoding.md R71 to R75), and placing them there. -/

namespace Sys2Proof.Machine

/-- The byte `k` addresses after PC, which wraps (R72, R73). -/
def State.byteAhead (s : State) (k : Nat) : Byte := s.readByte (s.pc + BitVec.ofNat 16 k)

/-- What the decoder reads at PC (R71). No byte that it examines beyond the instruction's own changes its answer but
the one after a lone prefix (R71 item 4), and reading memory has no effect (20_memory.md R58; log 10). -/
def State.decodeAtPc (s : State) : Decoded := decodeBytes (s.byteAhead 0) (s.byteAhead 1) (s.byteAhead 2) (s.byteAhead 3)

/-- The state in which the meaning of the instruction decoded at PC begins. -/
def State.fetchNext (s : State) : State := s.afterFetch s.decodeAtPc.length s.decodeAtPc.m1

/-- `Step()` (60_exceptions.md R350), with `run` for the instructions: the interrupt opportunity (R352); then, if halted, the wait (R357),
else one instruction, or one lone prefix, decoded at PC. Its meaning adds its cost to the budget (R351). -/
def State.stepBy (s : State) (run : Instr → State → Answer) (P : Params) : Answer :=
  let t := s.opportunity P
  if t.halted then .next t.haltedWait
  else run t.decodeAtPc.instr t.fetchNext

/-- Put four bytes at PC, whatever their bank: `w` with its first byte the least significant. -/
def State.placeAtPc (s : State) (w : Nat) : State :=
  (((s.poke s.pc (tableByte w 0)).poke (s.pc + 1) (tableByte w 1)).poke (s.pc + 2) (tableByte w 2)).poke (s.pc + 3)
    (tableByte w 3)

/-- The core awake, and no interrupt accepted before the next fetch: a non-negative budget with IFF1 set starts a new
frame instead (log 13). -/
def State.readyToFetch (s : State) : State :=
  { s with halted := false, budget := if 0 ≤ s.budget ∧ s.iff1 = true then -(Config.frameCycles : Int) else s.budget }

end Sys2Proof.Machine
end

