-- ==== Sys2Proof/Machine/IoCpu.lean ====
section
/-! DEFINITION. Port I/O and CPU control (48_io_cpu_control.md R325 to R337). -/

namespace Sys2Proof.Machine

/-! ## Port input and output -/

/-- `IN A,(n)` (R325). The port is `{A, n}` with the old A. -/
def execInAPortN (n : Byte) (s : State) (P : Params := Params.default) : Answer :=
  let v := s.portValue (wordOf s.a n)
  finish P (.inAPortN n) { s.recordIn (wordOf s.a n) v with a := v }

/-- `IN r,(C)` (R326). -/
def execInRPortC (r : Reg8) (s : State) (P : Params := Params.default) : Answer :=
  let v := s.portValue s.bc
  finish P (.inRPortC r) (((s.recordIn s.bc v).setReg8 r v).setFlags (inFlags v s.flags))

/-- `IN (C)` (R327). The value is discarded. -/
def execInPortC (s : State) (P : Params := Params.default) : Answer :=
  let v := s.portValue s.bc
  finish P .inPortC ((s.recordIn s.bc v).setFlags (inFlags v s.flags))

/-- `OUT (n),A` (R328). -/
def execOutPortNA (n : Byte) (s : State) (P : Params := Params.default) : Answer :=
  finish P (.outPortNA n) (s.portOut (wordOf s.a n) s.a)

/-- `OUT (C),r` (R329). -/
def execOutPortCR (r : Reg8) (s : State) (P : Params := Params.default) : Answer :=
  finish P (.outPortCR r) (s.portOut s.bc (s.reg8 r))

/-- `OUT (C),0` (R330). -/
def execOutPortCZero (s : State) (P : Params := Params.default) : Answer := finish P .outPortCZero (s.portOut s.bc 0x00)

/-! ## CPU control -/

/-- `NOP` (R331). -/
def execNop (s : State) (P : Params := Params.default) : Answer := finish P .nop s

/-- `HALT` (R332). The wait of R356: `h` steps of 4 cycles, one R increment per step, that of the fetch included; its cost is the
wait's, not the CycleTable's (60_exceptions.md R351; log 11). -/
def execHalt (s : State) : Answer :=
  let h := waitSteps s.budget
  .next ({ s.incR (h - 1) with halted := true }.charge (4 * h))

/-- `DI` (R333). -/
def execDi (s : State) (P : Params := Params.default) : Answer := finish P .di { s with iff1 := false, iff2 := false }

/-- `EI` (R334). No delay (D14). -/
def execEi (s : State) (P : Params := Params.default) : Answer := finish P .ei { s with iff1 := true, iff2 := true }

/-- `IM 0` (R335). -/
def execIm0 (s : State) (P : Params := Params.default) : Answer := finish P .im0 { s with im := .mode0 }

/-- `IM 1` (R335). -/
def execIm1 (s : State) (P : Params := Params.default) : Answer := finish P .im1 { s with im := .mode1 }

/-- `IM 2` (R335). -/
def execIm2 (s : State) (P : Params := Params.default) : Answer := finish P .im2 { s with im := .mode2 }

/-- `ED NOP` (R336). -/
def execEdNop (op : Byte) (s : State) (P : Params := Params.default) : Answer := finish P (.edNop op) s

/-- `0xDD prefix alone (no indexed form: 4-cycle no-op, next byte decoded afresh)` (R337). -/
def execLonePrefixDd (s : State) (P : Params := Params.default) : Answer := finish P .lonePrefixDd s

/-- `0xFD prefix alone (no indexed form: 4-cycle no-op, next byte decoded afresh)` (R337). -/
def execLonePrefixFd (s : State) (P : Params := Params.default) : Answer := finish P .lonePrefixFd s

end Sys2Proof.Machine
end

