-- ==== Sys2Proof/Machine/Load16.lean ====
section
/-! DEFINITION. The 16-bit loads, stack operations and exchanges (42_load16_exchange.md R170 to R188). -/

namespace Sys2Proof.Machine

/-! ## 16-bit loads -/

/-- `LD dd,nn` (R170). -/
def execLdDdNn (dd : Pair) (nn : Word) (s : State) (P : Params := Params.default) : Answer :=
  finish P (.ldDdNn dd nn) (s.setPair dd nn)

/-- `LD HL,(nn)` (R172). -/
def execLdHlMemNn (nn : Word) (s : State) (P : Params := Params.default) : Answer :=
  finish P (.ldHlMemNn nn) (s.setHl (s.readWord nn))

/-- `LD dd,(nn)` (R173). -/
def execLdDdMemNn (dd : Pair) (nn : Word) (s : State) (P : Params := Params.default) : Answer :=
  finish P (.ldDdMemNn dd nn) (s.setPair dd (s.readWord nn))

/-- `LD (nn),HL` (R175). -/
def execLdMemNnHl (nn : Word) (s : State) (P : Params := Params.default) : Answer :=
  finish P (.ldMemNnHl nn) (s.writeWord nn s.hl)

/-- `LD (nn),dd` (R176). -/
def execLdMemNnDd (nn : Word) (dd : Pair) (s : State) (P : Params := Params.default) : Answer :=
  finish P (.ldMemNnDd nn dd) (s.writeWord nn (s.pair dd))

/-- `LD SP,HL` (R178). -/
def execLdSpHl (s : State) (P : Params := Params.default) : Answer := finish P .ldSpHl { s with sp := s.hl }

/-- `LD IX,nn` (R171). -/
def execLdIxNn (nn : Word) (s : State) (P : Params := Params.default) : Answer := finish P (.ldIxNn nn) (s.setXy .ix nn)

/-- `LD IX,(nn)` (R174). -/
def execLdIxMemNn (nn : Word) (s : State) (P : Params := Params.default) : Answer :=
  finish P (.ldIxMemNn nn) (s.setXy .ix (s.readWord nn))

/-- `LD (nn),IX` (R177). -/
def execLdMemNnIx (nn : Word) (s : State) (P : Params := Params.default) : Answer :=
  finish P (.ldMemNnIx nn) (s.writeWord nn (s.xy .ix))

/-- `LD SP,IX` (R179). -/
def execLdSpIx (s : State) (P : Params := Params.default) : Answer := finish P .ldSpIx { s with sp := s.xy .ix }

/-- `LD IY,nn` (R171). -/
def execLdIyNn (nn : Word) (s : State) (P : Params := Params.default) : Answer := finish P (.ldIyNn nn) (s.setXy .iy nn)

/-- `LD IY,(nn)` (R174). -/
def execLdIyMemNn (nn : Word) (s : State) (P : Params := Params.default) : Answer :=
  finish P (.ldIyMemNn nn) (s.setXy .iy (s.readWord nn))

/-- `LD (nn),IY` (R177). -/
def execLdMemNnIy (nn : Word) (s : State) (P : Params := Params.default) : Answer :=
  finish P (.ldMemNnIy nn) (s.writeWord nn (s.xy .iy))

/-- `LD SP,IY` (R179). -/
def execLdSpIy (s : State) (P : Params := Params.default) : Answer := finish P .ldSpIy { s with sp := s.xy .iy }

/-! ## Stack -/

/-- `PUSH qq` (R180). -/
def execPushQq (qq : PairQ) (s : State) (P : Params := Params.default) : Answer :=
  finish P (.pushQq qq) (s.push16 (s.pairQ qq))

/-- `POP qq` (R182). -/
def execPopQq (qq : PairQ) (s : State) (P : Params := Params.default) : Answer :=
  finish P (.popQq qq) (s.drop16.setPairQ qq s.top16)

/-- `PUSH IX` (R181). -/
def execPushIx (s : State) (P : Params := Params.default) : Answer := finish P .pushIx (s.push16 (s.xy .ix))

/-- `POP IX` (R183). -/
def execPopIx (s : State) (P : Params := Params.default) : Answer := finish P .popIx (s.drop16.setXy .ix s.top16)

/-- `PUSH IY` (R181). -/
def execPushIy (s : State) (P : Params := Params.default) : Answer := finish P .pushIy (s.push16 (s.xy .iy))

/-- `POP IY` (R183). -/
def execPopIy (s : State) (P : Params := Params.default) : Answer := finish P .popIy (s.drop16.setXy .iy s.top16)

/-! ## Exchanges -/

/-- `EX DE,HL` (R184). -/
def execExDeHl (s : State) (P : Params := Params.default) : Answer := finish P .exDeHl ((s.setDe s.hl).setHl s.de)

/-- `EX AF,AF'` (R185). -/
def execExAfAf (s : State) (P : Params := Params.default) : Answer :=
  finish P .exAfAf { s with a := s.altA, f := s.altF, altA := s.a, altF := s.f }

/-- `EXX` (R186). -/
def execExx (s : State) (P : Params := Params.default) : Answer :=
  finish P .exx
    { s with b := s.altB, c := s.altC, d := s.altD, e := s.altE, h := s.altH, l := s.altL,
             altB := s.b, altC := s.c, altD := s.d, altE := s.e, altH := s.h, altL := s.l }

/-- `EX (SP),HL` (R187). SP does not change. -/
def execExMemSpHl (s : State) (P : Params := Params.default) : Answer :=
  finish P .exMemSpHl ((s.writeWord s.sp s.hl).setHl s.top16)

/-- `EX (SP),IX` (R188). SP does not change. -/
def execExMemSpIx (s : State) (P : Params := Params.default) : Answer :=
  finish P .exMemSpIx ((s.writeWord s.sp (s.xy .ix)).setXy .ix s.top16)

/-- `EX (SP),IY` (R188). SP does not change. -/
def execExMemSpIy (s : State) (P : Params := Params.default) : Answer :=
  finish P .exMemSpIy ((s.writeWord s.sp (s.xy .iy)).setXy .iy s.top16)

end Sys2Proof.Machine
end

