-- ==== Sys2Proof/Machine/Load8.lean ====
section
/-! DEFINITION. The 8-bit loads (41_load8.md R140 to R157). -/

namespace Sys2Proof.Machine

/-! ## Register, immediate and memory loads -/

/-- `LD r,r'` (R140). -/
def execLdRR (r : Reg8) (r' : Reg8) (s : State) (P : Params := Params.default) : Answer :=
  finish P (.ldRR r r') (s.setReg8 r (s.reg8 r'))

/-- `LD r,n` (R141). -/
def execLdRN (r : Reg8) (n : Byte) (s : State) (P : Params := Params.default) : Answer :=
  finish P (.ldRN r n) (s.setReg8 r n)

/-- `LD r,(HL)` (R142). The address is read before the write. -/
def execLdRMemHl (r : Reg8) (s : State) (P : Params := Params.default) : Answer :=
  finish P (.ldRMemHl r) (s.setReg8 r (s.readByte s.hl))

/-- `LD (HL),r` (R143). -/
def execLdMemHlR (r : Reg8) (s : State) (P : Params := Params.default) : Answer :=
  finish P (.ldMemHlR r) (s.writeByte s.hl (s.reg8 r))

/-- `LD (HL),n` (R144). -/
def execLdMemHlN (n : Byte) (s : State) (P : Params := Params.default) : Answer :=
  finish P (.ldMemHlN n) (s.writeByte s.hl n)

/-- `LD A,(BC)` (R145). -/
def execLdAMemBc (s : State) (P : Params := Params.default) : Answer :=
  finish P .ldAMemBc { s with a := s.readByte s.bc }

/-- `LD A,(DE)` (R145). -/
def execLdAMemDe (s : State) (P : Params := Params.default) : Answer :=
  finish P .ldAMemDe { s with a := s.readByte s.de }

/-- `LD (BC),A` (R146). -/
def execLdMemBcA (s : State) (P : Params := Params.default) : Answer := finish P .ldMemBcA (s.writeByte s.bc s.a)

/-- `LD (DE),A` (R146). -/
def execLdMemDeA (s : State) (P : Params := Params.default) : Answer := finish P .ldMemDeA (s.writeByte s.de s.a)

/-- `LD A,(nn)` (R147). -/
def execLdAMemNn (nn : Word) (s : State) (P : Params := Params.default) : Answer :=
  finish P (.ldAMemNn nn) { s with a := s.readByte nn }

/-- `LD (nn),A` (R148). -/
def execLdMemNnA (nn : Word) (s : State) (P : Params := Params.default) : Answer :=
  finish P (.ldMemNnA nn) (s.writeByte nn s.a)

/-! ## Indexed loads -/

/-- `LD IXH,r'` (R149). -/
def execLdIxhR (r : RegX) (s : State) (P : Params := Params.default) : Answer :=
  finish P (.ldIxhR r) (s.setXyh .ix (s.regX .ix r))

/-- `LD IXL,r'` (R149). -/
def execLdIxlR (r : RegX) (s : State) (P : Params := Params.default) : Answer :=
  finish P (.ldIxlR r) (s.setXyl .ix (s.regX .ix r))

/-- `LD r,IXH` (R149). -/
def execLdRIxh (r : Reg8) (s : State) (P : Params := Params.default) : Answer :=
  finish P (.ldRIxh r) (s.setReg8 r (s.xyh .ix))

/-- `LD r,IXL` (R149). -/
def execLdRIxl (r : Reg8) (s : State) (P : Params := Params.default) : Answer :=
  finish P (.ldRIxl r) (s.setReg8 r (s.xyl .ix))

/-- `LD IXH,n` (R150). -/
def execLdIxhN (n : Byte) (s : State) (P : Params := Params.default) : Answer := finish P (.ldIxhN n) (s.setXyh .ix n)

/-- `LD IXL,n` (R150). -/
def execLdIxlN (n : Byte) (s : State) (P : Params := Params.default) : Answer := finish P (.ldIxlN n) (s.setXyl .ix n)

/-- `LD r,(IX+d)` (R151). H and L are the real H and L (R89). -/
def execLdRMemIxd (r : Reg8) (d : Byte) (s : State) (P : Params := Params.default) : Answer :=
  finish P (.ldRMemIxd r d) (s.setReg8 r (s.readByte (s.ea .ix d)))

/-- `LD (IX+d),r` (R152). H and L are the real H and L (R89). -/
def execLdMemIxdR (d : Byte) (r : Reg8) (s : State) (P : Params := Params.default) : Answer :=
  finish P (.ldMemIxdR d r) (s.writeByte (s.ea .ix d) (s.reg8 r))

/-- `LD (IX+d),n` (R153). -/
def execLdMemIxdN (d : Byte) (n : Byte) (s : State) (P : Params := Params.default) : Answer :=
  finish P (.ldMemIxdN d n) (s.writeByte (s.ea .ix d) n)

/-- `LD IYH,r'` (R149). -/
def execLdIyhR (r : RegX) (s : State) (P : Params := Params.default) : Answer :=
  finish P (.ldIyhR r) (s.setXyh .iy (s.regX .iy r))

/-- `LD IYL,r'` (R149). -/
def execLdIylR (r : RegX) (s : State) (P : Params := Params.default) : Answer :=
  finish P (.ldIylR r) (s.setXyl .iy (s.regX .iy r))

/-- `LD r,IYH` (R149). -/
def execLdRIyh (r : Reg8) (s : State) (P : Params := Params.default) : Answer :=
  finish P (.ldRIyh r) (s.setReg8 r (s.xyh .iy))

/-- `LD r,IYL` (R149). -/
def execLdRIyl (r : Reg8) (s : State) (P : Params := Params.default) : Answer :=
  finish P (.ldRIyl r) (s.setReg8 r (s.xyl .iy))

/-- `LD IYH,n` (R150). -/
def execLdIyhN (n : Byte) (s : State) (P : Params := Params.default) : Answer := finish P (.ldIyhN n) (s.setXyh .iy n)

/-- `LD IYL,n` (R150). -/
def execLdIylN (n : Byte) (s : State) (P : Params := Params.default) : Answer := finish P (.ldIylN n) (s.setXyl .iy n)

/-- `LD r,(IY+d)` (R151). H and L are the real H and L (R89). -/
def execLdRMemIyd (r : Reg8) (d : Byte) (s : State) (P : Params := Params.default) : Answer :=
  finish P (.ldRMemIyd r d) (s.setReg8 r (s.readByte (s.ea .iy d)))

/-- `LD (IY+d),r` (R152). H and L are the real H and L (R89). -/
def execLdMemIydR (d : Byte) (r : Reg8) (s : State) (P : Params := Params.default) : Answer :=
  finish P (.ldMemIydR d r) (s.writeByte (s.ea .iy d) (s.reg8 r))

/-- `LD (IY+d),n` (R153). -/
def execLdMemIydN (d : Byte) (n : Byte) (s : State) (P : Params := Params.default) : Answer :=
  finish P (.ldMemIydN d n) (s.writeByte (s.ea .iy d) n)

/-! ## I and R -/

/-- `LD A,I` (R154). -/
def execLdAI (s : State) (P : Params := Params.default) : Answer :=
  finish P .ldAI ({ s with a := s.i }.setFlags (ldAirFlags s.i s.iff2 s.flags))

/-- `LD A,R` (R155). R after the two M1 fetches of this instruction. -/
def execLdAR (s : State) (P : Params := Params.default) : Answer :=
  finish P .ldAR ({ s with a := s.r }.setFlags (ldAirFlags s.r s.iff2 s.flags))

/-- `LD I,A` (R156). -/
def execLdIA (s : State) (P : Params := Params.default) : Answer := finish P .ldIA { s with i := s.a }

/-- `LD R,A` (R157). All 8 bits, after the fetches of this instruction. -/
def execLdRA (s : State) (P : Params := Params.default) : Answer := finish P .ldRA { s with r := s.a }

end Sys2Proof.Machine
end

