-- ==== Sys2Proof/Machine/RotateBit.lean ====
section
/-! DEFINITION. Rotates, shifts and bit operations (45_rotate_bit.md R245 to R267). -/

namespace Sys2Proof.Machine

/-! ## Shared operations -/

/-- An accumulator rotate (R245 to R248). -/
def State.rotAcc (s : State) (k : RotOp) : State := s.setAcc (rota8 k s.a s.flags)

/-- A rotate or shift of a register (R249 to R257). -/
def State.rotReg (s : State) (k : RotOp) (r : Reg8) : State :=
  let p := rot8 k (s.reg8 r) s.flags.c
  (s.setReg8 r p.1).setFlags p.2

/-- A rotate or shift of the byte at `a` (R249, R262). -/
def State.rotMem (s : State) (k : RotOp) (a : Word) : State := s.modifyMem a (rot8 k (s.readByte a) s.flags.c)

/-- The register copy of an Indexed-bit-ops form whose register field is not 6 (R261): the result also goes to `r`
when `copy`, the parameter `IXCB_REG_COPY`, holds. -/
def State.copyResult (s : State) (copy : Bool) (r : Reg8) (v : Byte) : State := if copy then s.setReg8 r v else s

/-- `rot[k] (XY+d),r` (R262). -/
def State.rotMemCopy (s : State) (copy : Bool) (k : RotOp) (a : Word) (r : Reg8) : State :=
  (s.rotMem k a).copyResult copy r (rot8 k (s.readByte a) s.flags.c).1

/-- The byte at `a` is replaced by `v`, which is also copied to `r` (R264, R265). -/
def State.writeCopy (s : State) (copy : Bool) (a : Word) (r : Reg8) (v : Byte) : State :=
  (s.writeByte a v).copyResult copy r v

/-! ## Accumulator rotates -/

/-- `RLCA` (R245). -/
def execRlca (s : State) (P : Params := Params.default) : Answer := finish P .rlca (s.rotAcc .rlc)

/-- `RRCA` (R246). -/
def execRrca (s : State) (P : Params := Params.default) : Answer := finish P .rrca (s.rotAcc .rrc)

/-- `RLA` (R247). -/
def execRla (s : State) (P : Params := Params.default) : Answer := finish P .rla (s.rotAcc .rl)

/-- `RRA` (R248). -/
def execRra (s : State) (P : Params := Params.default) : Answer := finish P .rra (s.rotAcc .rr)

/-! ## Rotates and shifts -/

/-- `RLC r` (R250). -/
def execRlcR (r : Reg8) (s : State) (P : Params := Params.default) : Answer := finish P (.rlcR r) (s.rotReg .rlc r)

/-- `RLC (HL)` (R250). -/
def execRlcMemHl (s : State) (P : Params := Params.default) : Answer := finish P .rlcMemHl (s.rotMem .rlc s.hl)

/-- `RLC (IX+d)` (R262). -/
def execRlcMemIxd (d : Byte) (s : State) (P : Params := Params.default) : Answer :=
  finish P (.rlcMemIxd d) (s.rotMem .rlc (s.ea .ix d))

/-- `RLC (IX+d),r` (R262). -/
def execRlcMemIxdR (d : Byte) (r : Reg8) (s : State) (P : Params := Params.default) : Answer :=
  finish P (.rlcMemIxdR d r) (s.rotMemCopy P.ixcbRegCopy .rlc (s.ea .ix d) r)

/-- `RLC (IY+d)` (R262). -/
def execRlcMemIyd (d : Byte) (s : State) (P : Params := Params.default) : Answer :=
  finish P (.rlcMemIyd d) (s.rotMem .rlc (s.ea .iy d))

/-- `RLC (IY+d),r` (R262). -/
def execRlcMemIydR (d : Byte) (r : Reg8) (s : State) (P : Params := Params.default) : Answer :=
  finish P (.rlcMemIydR d r) (s.rotMemCopy P.ixcbRegCopy .rlc (s.ea .iy d) r)

/-- `RRC r` (R251). -/
def execRrcR (r : Reg8) (s : State) (P : Params := Params.default) : Answer := finish P (.rrcR r) (s.rotReg .rrc r)

/-- `RRC (HL)` (R251). -/
def execRrcMemHl (s : State) (P : Params := Params.default) : Answer := finish P .rrcMemHl (s.rotMem .rrc s.hl)

/-- `RRC (IX+d)` (R262). -/
def execRrcMemIxd (d : Byte) (s : State) (P : Params := Params.default) : Answer :=
  finish P (.rrcMemIxd d) (s.rotMem .rrc (s.ea .ix d))

/-- `RRC (IX+d),r` (R262). -/
def execRrcMemIxdR (d : Byte) (r : Reg8) (s : State) (P : Params := Params.default) : Answer :=
  finish P (.rrcMemIxdR d r) (s.rotMemCopy P.ixcbRegCopy .rrc (s.ea .ix d) r)

/-- `RRC (IY+d)` (R262). -/
def execRrcMemIyd (d : Byte) (s : State) (P : Params := Params.default) : Answer :=
  finish P (.rrcMemIyd d) (s.rotMem .rrc (s.ea .iy d))

/-- `RRC (IY+d),r` (R262). -/
def execRrcMemIydR (d : Byte) (r : Reg8) (s : State) (P : Params := Params.default) : Answer :=
  finish P (.rrcMemIydR d r) (s.rotMemCopy P.ixcbRegCopy .rrc (s.ea .iy d) r)

/-- `RL r` (R252). -/
def execRlR (r : Reg8) (s : State) (P : Params := Params.default) : Answer := finish P (.rlR r) (s.rotReg .rl r)

/-- `RL (HL)` (R252). -/
def execRlMemHl (s : State) (P : Params := Params.default) : Answer := finish P .rlMemHl (s.rotMem .rl s.hl)

/-- `RL (IX+d)` (R262). -/
def execRlMemIxd (d : Byte) (s : State) (P : Params := Params.default) : Answer :=
  finish P (.rlMemIxd d) (s.rotMem .rl (s.ea .ix d))

/-- `RL (IX+d),r` (R262). -/
def execRlMemIxdR (d : Byte) (r : Reg8) (s : State) (P : Params := Params.default) : Answer :=
  finish P (.rlMemIxdR d r) (s.rotMemCopy P.ixcbRegCopy .rl (s.ea .ix d) r)

/-- `RL (IY+d)` (R262). -/
def execRlMemIyd (d : Byte) (s : State) (P : Params := Params.default) : Answer :=
  finish P (.rlMemIyd d) (s.rotMem .rl (s.ea .iy d))

/-- `RL (IY+d),r` (R262). -/
def execRlMemIydR (d : Byte) (r : Reg8) (s : State) (P : Params := Params.default) : Answer :=
  finish P (.rlMemIydR d r) (s.rotMemCopy P.ixcbRegCopy .rl (s.ea .iy d) r)

/-- `RR r` (R253). -/
def execRrR (r : Reg8) (s : State) (P : Params := Params.default) : Answer := finish P (.rrR r) (s.rotReg .rr r)

/-- `RR (HL)` (R253). -/
def execRrMemHl (s : State) (P : Params := Params.default) : Answer := finish P .rrMemHl (s.rotMem .rr s.hl)

/-- `RR (IX+d)` (R262). -/
def execRrMemIxd (d : Byte) (s : State) (P : Params := Params.default) : Answer :=
  finish P (.rrMemIxd d) (s.rotMem .rr (s.ea .ix d))

/-- `RR (IX+d),r` (R262). -/
def execRrMemIxdR (d : Byte) (r : Reg8) (s : State) (P : Params := Params.default) : Answer :=
  finish P (.rrMemIxdR d r) (s.rotMemCopy P.ixcbRegCopy .rr (s.ea .ix d) r)

/-- `RR (IY+d)` (R262). -/
def execRrMemIyd (d : Byte) (s : State) (P : Params := Params.default) : Answer :=
  finish P (.rrMemIyd d) (s.rotMem .rr (s.ea .iy d))

/-- `RR (IY+d),r` (R262). -/
def execRrMemIydR (d : Byte) (r : Reg8) (s : State) (P : Params := Params.default) : Answer :=
  finish P (.rrMemIydR d r) (s.rotMemCopy P.ixcbRegCopy .rr (s.ea .iy d) r)

/-- `SLA r` (R254). -/
def execSlaR (r : Reg8) (s : State) (P : Params := Params.default) : Answer := finish P (.slaR r) (s.rotReg .sla r)

/-- `SLA (HL)` (R254). -/
def execSlaMemHl (s : State) (P : Params := Params.default) : Answer := finish P .slaMemHl (s.rotMem .sla s.hl)

/-- `SLA (IX+d)` (R262). -/
def execSlaMemIxd (d : Byte) (s : State) (P : Params := Params.default) : Answer :=
  finish P (.slaMemIxd d) (s.rotMem .sla (s.ea .ix d))

/-- `SLA (IX+d),r` (R262). -/
def execSlaMemIxdR (d : Byte) (r : Reg8) (s : State) (P : Params := Params.default) : Answer :=
  finish P (.slaMemIxdR d r) (s.rotMemCopy P.ixcbRegCopy .sla (s.ea .ix d) r)

/-- `SLA (IY+d)` (R262). -/
def execSlaMemIyd (d : Byte) (s : State) (P : Params := Params.default) : Answer :=
  finish P (.slaMemIyd d) (s.rotMem .sla (s.ea .iy d))

/-- `SLA (IY+d),r` (R262). -/
def execSlaMemIydR (d : Byte) (r : Reg8) (s : State) (P : Params := Params.default) : Answer :=
  finish P (.slaMemIydR d r) (s.rotMemCopy P.ixcbRegCopy .sla (s.ea .iy d) r)

/-- `SRA r` (R255). -/
def execSraR (r : Reg8) (s : State) (P : Params := Params.default) : Answer := finish P (.sraR r) (s.rotReg .sra r)

/-- `SRA (HL)` (R255). -/
def execSraMemHl (s : State) (P : Params := Params.default) : Answer := finish P .sraMemHl (s.rotMem .sra s.hl)

/-- `SRA (IX+d)` (R262). -/
def execSraMemIxd (d : Byte) (s : State) (P : Params := Params.default) : Answer :=
  finish P (.sraMemIxd d) (s.rotMem .sra (s.ea .ix d))

/-- `SRA (IX+d),r` (R262). -/
def execSraMemIxdR (d : Byte) (r : Reg8) (s : State) (P : Params := Params.default) : Answer :=
  finish P (.sraMemIxdR d r) (s.rotMemCopy P.ixcbRegCopy .sra (s.ea .ix d) r)

/-- `SRA (IY+d)` (R262). -/
def execSraMemIyd (d : Byte) (s : State) (P : Params := Params.default) : Answer :=
  finish P (.sraMemIyd d) (s.rotMem .sra (s.ea .iy d))

/-- `SRA (IY+d),r` (R262). -/
def execSraMemIydR (d : Byte) (r : Reg8) (s : State) (P : Params := Params.default) : Answer :=
  finish P (.sraMemIydR d r) (s.rotMemCopy P.ixcbRegCopy .sra (s.ea .iy d) r)

/-- `SLS r` (R256). -/
def execSlsR (r : Reg8) (s : State) (P : Params := Params.default) : Answer := finish P (.slsR r) (s.rotReg .sls r)

/-- `SLS (HL)` (R256). -/
def execSlsMemHl (s : State) (P : Params := Params.default) : Answer := finish P .slsMemHl (s.rotMem .sls s.hl)

/-- `SLS (IX+d)` (R262). -/
def execSlsMemIxd (d : Byte) (s : State) (P : Params := Params.default) : Answer :=
  finish P (.slsMemIxd d) (s.rotMem .sls (s.ea .ix d))

/-- `SLS (IX+d),r` (R262). -/
def execSlsMemIxdR (d : Byte) (r : Reg8) (s : State) (P : Params := Params.default) : Answer :=
  finish P (.slsMemIxdR d r) (s.rotMemCopy P.ixcbRegCopy .sls (s.ea .ix d) r)

/-- `SLS (IY+d)` (R262). -/
def execSlsMemIyd (d : Byte) (s : State) (P : Params := Params.default) : Answer :=
  finish P (.slsMemIyd d) (s.rotMem .sls (s.ea .iy d))

/-- `SLS (IY+d),r` (R262). -/
def execSlsMemIydR (d : Byte) (r : Reg8) (s : State) (P : Params := Params.default) : Answer :=
  finish P (.slsMemIydR d r) (s.rotMemCopy P.ixcbRegCopy .sls (s.ea .iy d) r)

/-- `SRL r` (R257). -/
def execSrlR (r : Reg8) (s : State) (P : Params := Params.default) : Answer := finish P (.srlR r) (s.rotReg .srl r)

/-- `SRL (HL)` (R257). -/
def execSrlMemHl (s : State) (P : Params := Params.default) : Answer := finish P .srlMemHl (s.rotMem .srl s.hl)

/-- `SRL (IX+d)` (R262). -/
def execSrlMemIxd (d : Byte) (s : State) (P : Params := Params.default) : Answer :=
  finish P (.srlMemIxd d) (s.rotMem .srl (s.ea .ix d))

/-- `SRL (IX+d),r` (R262). -/
def execSrlMemIxdR (d : Byte) (r : Reg8) (s : State) (P : Params := Params.default) : Answer :=
  finish P (.srlMemIxdR d r) (s.rotMemCopy P.ixcbRegCopy .srl (s.ea .ix d) r)

/-- `SRL (IY+d)` (R262). -/
def execSrlMemIyd (d : Byte) (s : State) (P : Params := Params.default) : Answer :=
  finish P (.srlMemIyd d) (s.rotMem .srl (s.ea .iy d))

/-- `SRL (IY+d),r` (R262). -/
def execSrlMemIydR (d : Byte) (r : Reg8) (s : State) (P : Params := Params.default) : Answer :=
  finish P (.srlMemIydR d r) (s.rotMemCopy P.ixcbRegCopy .srl (s.ea .iy d) r)

/-! ## BIT, RES and SET -/

/-- `BIT b,r` (R258). -/
def execBitBR (b : Fin 8) (r : Reg8) (s : State) (P : Params := Params.default) : Answer :=
  finish P (.bitBR b r) (s.setFlags (bit8 b (s.reg8 r) s.flags))

/-- `BIT b,(HL)` (R258). -/
def execBitBMemHl (b : Fin 8) (s : State) (P : Params := Params.default) : Answer :=
  finish P (.bitBMemHl b) (s.setFlags (bit8 b (s.readByte s.hl) s.flags))

/-- `BIT b,(IX+d)` (R263). -/
def execBitBMemIxd (b : Fin 8) (d : Byte) (s : State) (P : Params := Params.default) : Answer :=
  finish P (.bitBMemIxd b d) (s.setFlags (bit8 b (s.readByte (s.ea .ix d)) s.flags))

/-- `BIT b,(IY+d)` (R263). -/
def execBitBMemIyd (b : Fin 8) (d : Byte) (s : State) (P : Params := Params.default) : Answer :=
  finish P (.bitBMemIyd b d) (s.setFlags (bit8 b (s.readByte (s.ea .iy d)) s.flags))

/-- `RES b,r` (R260). -/
def execResBR (b : Fin 8) (r : Reg8) (s : State) (P : Params := Params.default) : Answer :=
  finish P (.resBR b r) (s.setReg8 r (res8 b (s.reg8 r)))

/-- `RES b,(HL)` (R260). -/
def execResBMemHl (b : Fin 8) (s : State) (P : Params := Params.default) : Answer :=
  finish P (.resBMemHl b) (s.writeByte s.hl (res8 b (s.readByte s.hl)))

/-- `RES b,(IX+d)` (R264). -/
def execResBMemIxd (b : Fin 8) (d : Byte) (s : State) (P : Params := Params.default) : Answer :=
  finish P (.resBMemIxd b d) (s.writeByte (s.ea .ix d) (res8 b (s.readByte (s.ea .ix d))))

/-- `RES b,(IX+d),r` (R264). -/
def execResBMemIxdR (b : Fin 8) (d : Byte) (r : Reg8) (s : State) (P : Params := Params.default) : Answer :=
  finish P (.resBMemIxdR b d r) (s.writeCopy P.ixcbRegCopy (s.ea .ix d) r (res8 b (s.readByte (s.ea .ix d))))

/-- `RES b,(IY+d)` (R264). -/
def execResBMemIyd (b : Fin 8) (d : Byte) (s : State) (P : Params := Params.default) : Answer :=
  finish P (.resBMemIyd b d) (s.writeByte (s.ea .iy d) (res8 b (s.readByte (s.ea .iy d))))

/-- `RES b,(IY+d),r` (R264). -/
def execResBMemIydR (b : Fin 8) (d : Byte) (r : Reg8) (s : State) (P : Params := Params.default) : Answer :=
  finish P (.resBMemIydR b d r) (s.writeCopy P.ixcbRegCopy (s.ea .iy d) r (res8 b (s.readByte (s.ea .iy d))))

/-- `SET b,r` (R259). -/
def execSetBR (b : Fin 8) (r : Reg8) (s : State) (P : Params := Params.default) : Answer :=
  finish P (.setBR b r) (s.setReg8 r (set8 b (s.reg8 r)))

/-- `SET b,(HL)` (R259). -/
def execSetBMemHl (b : Fin 8) (s : State) (P : Params := Params.default) : Answer :=
  finish P (.setBMemHl b) (s.writeByte s.hl (set8 b (s.readByte s.hl)))

/-- `SET b,(IX+d)` (R265). -/
def execSetBMemIxd (b : Fin 8) (d : Byte) (s : State) (P : Params := Params.default) : Answer :=
  finish P (.setBMemIxd b d) (s.writeByte (s.ea .ix d) (set8 b (s.readByte (s.ea .ix d))))

/-- `SET b,(IX+d),r` (R265). -/
def execSetBMemIxdR (b : Fin 8) (d : Byte) (r : Reg8) (s : State) (P : Params := Params.default) : Answer :=
  finish P (.setBMemIxdR b d r) (s.writeCopy P.ixcbRegCopy (s.ea .ix d) r (set8 b (s.readByte (s.ea .ix d))))

/-- `SET b,(IY+d)` (R265). -/
def execSetBMemIyd (b : Fin 8) (d : Byte) (s : State) (P : Params := Params.default) : Answer :=
  finish P (.setBMemIyd b d) (s.writeByte (s.ea .iy d) (set8 b (s.readByte (s.ea .iy d))))

/-- `SET b,(IY+d),r` (R265). -/
def execSetBMemIydR (b : Fin 8) (d : Byte) (r : Reg8) (s : State) (P : Params := Params.default) : Answer :=
  finish P (.setBMemIydR b d r) (s.writeCopy P.ixcbRegCopy (s.ea .iy d) r (set8 b (s.readByte (s.ea .iy d))))

/-! ## Nibble rotates -/

/-- `RLD` (R266). -/
def execRld (s : State) (P : Params := Params.default) : Answer :=
  let p := rld8 s.a (s.readByte s.hl) s.flags
  finish P .rld ((s.writeByte s.hl p.2.1).setAcc (p.1, p.2.2))

/-- `RRD` (R267). -/
def execRrd (s : State) (P : Params := Params.default) : Answer :=
  let p := rrd8 s.a (s.readByte s.hl) s.flags
  finish P .rrd ((s.writeByte s.hl p.2.1).setAcc (p.1, p.2.2))

end Sys2Proof.Machine
end

