-- ==== Sys2Proof/Machine/Prefix.lean ====
section
/-! DEFINITION. The decode transitions of 30_encoding.md R71: after a prefix byte has been fetched, the context it selects decodes the
bytes at PC, and the selected row runs (log 9). -/

namespace Sys2Proof.Machine

/-- Run the row a context selects after a prefix (30_encoding.md R71): one direct call of its meaning. No context
selects a transition row. -/
def execSelected (i : Instr) (s : State) (P : Params := Params.default) : Answer :=
  match i with
  | .nop => Sys2Proof.Machine.execNop s P
  | .ldDdNn dd nn => Sys2Proof.Machine.execLdDdNn dd nn s P
  | .ldMemBcA => Sys2Proof.Machine.execLdMemBcA s P
  | .ldMemDeA => Sys2Proof.Machine.execLdMemDeA s P
  | .incSs ss => Sys2Proof.Machine.execIncSs ss s P
  | .incR r => Sys2Proof.Machine.execIncR r s P
  | .incMemHl => Sys2Proof.Machine.execIncMemHl s P
  | .decR r => Sys2Proof.Machine.execDecR r s P
  | .decMemHl => Sys2Proof.Machine.execDecMemHl s P
  | .ldRN r n => Sys2Proof.Machine.execLdRN r n s P
  | .ldMemHlN n => Sys2Proof.Machine.execLdMemHlN n s P
  | .rlca => Sys2Proof.Machine.execRlca s P
  | .rrca => Sys2Proof.Machine.execRrca s P
  | .rla => Sys2Proof.Machine.execRla s P
  | .rra => Sys2Proof.Machine.execRra s P
  | .exAfAf => Sys2Proof.Machine.execExAfAf s P
  | .addHlSs ss => Sys2Proof.Machine.execAddHlSs ss s P
  | .ldAMemBc => Sys2Proof.Machine.execLdAMemBc s P
  | .ldAMemDe => Sys2Proof.Machine.execLdAMemDe s P
  | .decSs ss => Sys2Proof.Machine.execDecSs ss s P
  | .djnzE e => Sys2Proof.Machine.execDjnzE e s P
  | .jrE e => Sys2Proof.Machine.execJrE e s P
  | .jrCcE cc e => Sys2Proof.Machine.execJrCcE cc e s P
  | .ldMemNnHl nn => Sys2Proof.Machine.execLdMemNnHl nn s P
  | .ldHlMemNn nn => Sys2Proof.Machine.execLdHlMemNn nn s P
  | .daa => Sys2Proof.Machine.execDaa s P
  | .cpl => Sys2Proof.Machine.execCpl s P
  | .scf => Sys2Proof.Machine.execScf s P
  | .ccf => Sys2Proof.Machine.execCcf s P
  | .ldMemNnA nn => Sys2Proof.Machine.execLdMemNnA nn s P
  | .ldAMemNn nn => Sys2Proof.Machine.execLdAMemNn nn s P
  | .ldRR r r' => Sys2Proof.Machine.execLdRR r r' s P
  | .ldRMemHl r => Sys2Proof.Machine.execLdRMemHl r s P
  | .ldMemHlR r => Sys2Proof.Machine.execLdMemHlR r s P
  | .halt => Sys2Proof.Machine.execHalt s
  | .addAR r => Sys2Proof.Machine.execAddAR r s P
  | .addAMemHl => Sys2Proof.Machine.execAddAMemHl s P
  | .addAN n => Sys2Proof.Machine.execAddAN n s P
  | .adcAR r => Sys2Proof.Machine.execAdcAR r s P
  | .adcAMemHl => Sys2Proof.Machine.execAdcAMemHl s P
  | .adcAN n => Sys2Proof.Machine.execAdcAN n s P
  | .subR r => Sys2Proof.Machine.execSubR r s P
  | .subMemHl => Sys2Proof.Machine.execSubMemHl s P
  | .subN n => Sys2Proof.Machine.execSubN n s P
  | .sbcAR r => Sys2Proof.Machine.execSbcAR r s P
  | .sbcAMemHl => Sys2Proof.Machine.execSbcAMemHl s P
  | .sbcAN n => Sys2Proof.Machine.execSbcAN n s P
  | .andR r => Sys2Proof.Machine.execAndR r s P
  | .andMemHl => Sys2Proof.Machine.execAndMemHl s P
  | .andN n => Sys2Proof.Machine.execAndN n s P
  | .xorR r => Sys2Proof.Machine.execXorR r s P
  | .xorMemHl => Sys2Proof.Machine.execXorMemHl s P
  | .xorN n => Sys2Proof.Machine.execXorN n s P
  | .orR r => Sys2Proof.Machine.execOrR r s P
  | .orMemHl => Sys2Proof.Machine.execOrMemHl s P
  | .orN n => Sys2Proof.Machine.execOrN n s P
  | .cpR r => Sys2Proof.Machine.execCpR r s P
  | .cpMemHl => Sys2Proof.Machine.execCpMemHl s P
  | .cpN n => Sys2Proof.Machine.execCpN n s P
  | .retCc cc => Sys2Proof.Machine.execRetCc cc s P
  | .popQq qq => Sys2Proof.Machine.execPopQq qq s P
  | .jpCcNn cc nn => Sys2Proof.Machine.execJpCcNn cc nn s P
  | .jpNn nn => Sys2Proof.Machine.execJpNn nn s P
  | .callCcNn cc nn => Sys2Proof.Machine.execCallCcNn cc nn s P
  | .pushQq qq => Sys2Proof.Machine.execPushQq qq s P
  | .rstP p => Sys2Proof.Machine.execRstP p s P
  | .ret => Sys2Proof.Machine.execRet s P
  | .callNn nn => Sys2Proof.Machine.execCallNn nn s P
  | .outPortNA n => Sys2Proof.Machine.execOutPortNA n s P
  | .inAPortN n => Sys2Proof.Machine.execInAPortN n s P
  | .exx => Sys2Proof.Machine.execExx s P
  | .exMemSpHl => Sys2Proof.Machine.execExMemSpHl s P
  | .jpHl => Sys2Proof.Machine.execJpHl s P
  | .exDeHl => Sys2Proof.Machine.execExDeHl s P
  | .di => Sys2Proof.Machine.execDi s P
  | .ei => Sys2Proof.Machine.execEi s P
  | .ldSpHl => Sys2Proof.Machine.execLdSpHl s P
  | .prefixCb => .refused .transitionSelected
  | .prefixEd => .refused .transitionSelected
  | .prefixDd => .refused .transitionSelected
  | .prefixFd => .refused .transitionSelected
  | .rlcR r => Sys2Proof.Machine.execRlcR r s P
  | .rlcMemHl => Sys2Proof.Machine.execRlcMemHl s P
  | .rrcR r => Sys2Proof.Machine.execRrcR r s P
  | .rrcMemHl => Sys2Proof.Machine.execRrcMemHl s P
  | .rlR r => Sys2Proof.Machine.execRlR r s P
  | .rlMemHl => Sys2Proof.Machine.execRlMemHl s P
  | .rrR r => Sys2Proof.Machine.execRrR r s P
  | .rrMemHl => Sys2Proof.Machine.execRrMemHl s P
  | .slaR r => Sys2Proof.Machine.execSlaR r s P
  | .slaMemHl => Sys2Proof.Machine.execSlaMemHl s P
  | .sraR r => Sys2Proof.Machine.execSraR r s P
  | .sraMemHl => Sys2Proof.Machine.execSraMemHl s P
  | .slsR r => Sys2Proof.Machine.execSlsR r s P
  | .slsMemHl => Sys2Proof.Machine.execSlsMemHl s P
  | .srlR r => Sys2Proof.Machine.execSrlR r s P
  | .srlMemHl => Sys2Proof.Machine.execSrlMemHl s P
  | .bitBR b r => Sys2Proof.Machine.execBitBR b r s P
  | .bitBMemHl b => Sys2Proof.Machine.execBitBMemHl b s P
  | .resBR b r => Sys2Proof.Machine.execResBR b r s P
  | .resBMemHl b => Sys2Proof.Machine.execResBMemHl b s P
  | .setBR b r => Sys2Proof.Machine.execSetBR b r s P
  | .setBMemHl b => Sys2Proof.Machine.execSetBMemHl b s P
  | .inRPortC r => Sys2Proof.Machine.execInRPortC r s P
  | .inPortC => Sys2Proof.Machine.execInPortC s P
  | .outPortCR r => Sys2Proof.Machine.execOutPortCR r s P
  | .outPortCZero => Sys2Proof.Machine.execOutPortCZero s P
  | .sbcHlSs ss => Sys2Proof.Machine.execSbcHlSs ss s P
  | .adcHlSs ss => Sys2Proof.Machine.execAdcHlSs ss s P
  | .ldMemNnDd nn dd => Sys2Proof.Machine.execLdMemNnDd nn dd s P
  | .ldDdMemNn dd nn => Sys2Proof.Machine.execLdDdMemNn dd nn s P
  | .neg => Sys2Proof.Machine.execNeg s P
  | .retn => Sys2Proof.Machine.execRetn s P
  | .reti => Sys2Proof.Machine.execReti s P
  | .im0 => Sys2Proof.Machine.execIm0 s P
  | .im1 => Sys2Proof.Machine.execIm1 s P
  | .im2 => Sys2Proof.Machine.execIm2 s P
  | .ldIA => Sys2Proof.Machine.execLdIA s P
  | .ldRA => Sys2Proof.Machine.execLdRA s P
  | .ldAI => Sys2Proof.Machine.execLdAI s P
  | .ldAR => Sys2Proof.Machine.execLdAR s P
  | .rrd => Sys2Proof.Machine.execRrd s P
  | .rld => Sys2Proof.Machine.execRld s P
  | .ldi => Sys2Proof.Machine.execLdi s P
  | .cpi => Sys2Proof.Machine.execCpi s P
  | .ini => Sys2Proof.Machine.execIni s P
  | .outi => Sys2Proof.Machine.execOuti s P
  | .ldd => Sys2Proof.Machine.execLdd s P
  | .cpd => Sys2Proof.Machine.execCpd s P
  | .ind => Sys2Proof.Machine.execInd s P
  | .outd => Sys2Proof.Machine.execOutd s P
  | .ldir => Sys2Proof.Machine.execLdir s P
  | .cpir => Sys2Proof.Machine.execCpir s P
  | .inir => Sys2Proof.Machine.execInir s P
  | .otir => Sys2Proof.Machine.execOtir s P
  | .lddr => Sys2Proof.Machine.execLddr s P
  | .cpdr => Sys2Proof.Machine.execCpdr s P
  | .indr => Sys2Proof.Machine.execIndr s P
  | .otdr => Sys2Proof.Machine.execOtdr s P
  | .edNop op => Sys2Proof.Machine.execEdNop op s P
  | .addIxPp pp => Sys2Proof.Machine.execAddIxPp pp s P
  | .ldIxNn nn => Sys2Proof.Machine.execLdIxNn nn s P
  | .ldMemNnIx nn => Sys2Proof.Machine.execLdMemNnIx nn s P
  | .ldIxMemNn nn => Sys2Proof.Machine.execLdIxMemNn nn s P
  | .incIx => Sys2Proof.Machine.execIncIx s P
  | .decIx => Sys2Proof.Machine.execDecIx s P
  | .incIxh => Sys2Proof.Machine.execIncIxh s P
  | .incIxl => Sys2Proof.Machine.execIncIxl s P
  | .decIxh => Sys2Proof.Machine.execDecIxh s P
  | .decIxl => Sys2Proof.Machine.execDecIxl s P
  | .ldIxhN n => Sys2Proof.Machine.execLdIxhN n s P
  | .ldIxlN n => Sys2Proof.Machine.execLdIxlN n s P
  | .incMemIxd d => Sys2Proof.Machine.execIncMemIxd d s P
  | .decMemIxd d => Sys2Proof.Machine.execDecMemIxd d s P
  | .ldMemIxdN d n => Sys2Proof.Machine.execLdMemIxdN d n s P
  | .ldIxhR r => Sys2Proof.Machine.execLdIxhR r s P
  | .ldIxlR r => Sys2Proof.Machine.execLdIxlR r s P
  | .ldRIxh r => Sys2Proof.Machine.execLdRIxh r s P
  | .ldRIxl r => Sys2Proof.Machine.execLdRIxl r s P
  | .ldRMemIxd r d => Sys2Proof.Machine.execLdRMemIxd r d s P
  | .ldMemIxdR d r => Sys2Proof.Machine.execLdMemIxdR d r s P
  | .addAIxh => Sys2Proof.Machine.execAddAIxh s P
  | .addAIxl => Sys2Proof.Machine.execAddAIxl s P
  | .addAMemIxd d => Sys2Proof.Machine.execAddAMemIxd d s P
  | .adcAIxh => Sys2Proof.Machine.execAdcAIxh s P
  | .adcAIxl => Sys2Proof.Machine.execAdcAIxl s P
  | .adcAMemIxd d => Sys2Proof.Machine.execAdcAMemIxd d s P
  | .subIxh => Sys2Proof.Machine.execSubIxh s P
  | .subIxl => Sys2Proof.Machine.execSubIxl s P
  | .subMemIxd d => Sys2Proof.Machine.execSubMemIxd d s P
  | .sbcAIxh => Sys2Proof.Machine.execSbcAIxh s P
  | .sbcAIxl => Sys2Proof.Machine.execSbcAIxl s P
  | .sbcAMemIxd d => Sys2Proof.Machine.execSbcAMemIxd d s P
  | .andIxh => Sys2Proof.Machine.execAndIxh s P
  | .andIxl => Sys2Proof.Machine.execAndIxl s P
  | .andMemIxd d => Sys2Proof.Machine.execAndMemIxd d s P
  | .xorIxh => Sys2Proof.Machine.execXorIxh s P
  | .xorIxl => Sys2Proof.Machine.execXorIxl s P
  | .xorMemIxd d => Sys2Proof.Machine.execXorMemIxd d s P
  | .orIxh => Sys2Proof.Machine.execOrIxh s P
  | .orIxl => Sys2Proof.Machine.execOrIxl s P
  | .orMemIxd d => Sys2Proof.Machine.execOrMemIxd d s P
  | .cpIxh => Sys2Proof.Machine.execCpIxh s P
  | .cpIxl => Sys2Proof.Machine.execCpIxl s P
  | .cpMemIxd d => Sys2Proof.Machine.execCpMemIxd d s P
  | .popIx => Sys2Proof.Machine.execPopIx s P
  | .exMemSpIx => Sys2Proof.Machine.execExMemSpIx s P
  | .pushIx => Sys2Proof.Machine.execPushIx s P
  | .jpIx => Sys2Proof.Machine.execJpIx s P
  | .ldSpIx => Sys2Proof.Machine.execLdSpIx s P
  | .prefixDdCb => .refused .transitionSelected
  | .lonePrefixDd => Sys2Proof.Machine.execLonePrefixDd s P
  | .addIyPp pp => Sys2Proof.Machine.execAddIyPp pp s P
  | .ldIyNn nn => Sys2Proof.Machine.execLdIyNn nn s P
  | .ldMemNnIy nn => Sys2Proof.Machine.execLdMemNnIy nn s P
  | .ldIyMemNn nn => Sys2Proof.Machine.execLdIyMemNn nn s P
  | .incIy => Sys2Proof.Machine.execIncIy s P
  | .decIy => Sys2Proof.Machine.execDecIy s P
  | .incIyh => Sys2Proof.Machine.execIncIyh s P
  | .incIyl => Sys2Proof.Machine.execIncIyl s P
  | .decIyh => Sys2Proof.Machine.execDecIyh s P
  | .decIyl => Sys2Proof.Machine.execDecIyl s P
  | .ldIyhN n => Sys2Proof.Machine.execLdIyhN n s P
  | .ldIylN n => Sys2Proof.Machine.execLdIylN n s P
  | .incMemIyd d => Sys2Proof.Machine.execIncMemIyd d s P
  | .decMemIyd d => Sys2Proof.Machine.execDecMemIyd d s P
  | .ldMemIydN d n => Sys2Proof.Machine.execLdMemIydN d n s P
  | .ldIyhR r => Sys2Proof.Machine.execLdIyhR r s P
  | .ldIylR r => Sys2Proof.Machine.execLdIylR r s P
  | .ldRIyh r => Sys2Proof.Machine.execLdRIyh r s P
  | .ldRIyl r => Sys2Proof.Machine.execLdRIyl r s P
  | .ldRMemIyd r d => Sys2Proof.Machine.execLdRMemIyd r d s P
  | .ldMemIydR d r => Sys2Proof.Machine.execLdMemIydR d r s P
  | .addAIyh => Sys2Proof.Machine.execAddAIyh s P
  | .addAIyl => Sys2Proof.Machine.execAddAIyl s P
  | .addAMemIyd d => Sys2Proof.Machine.execAddAMemIyd d s P
  | .adcAIyh => Sys2Proof.Machine.execAdcAIyh s P
  | .adcAIyl => Sys2Proof.Machine.execAdcAIyl s P
  | .adcAMemIyd d => Sys2Proof.Machine.execAdcAMemIyd d s P
  | .subIyh => Sys2Proof.Machine.execSubIyh s P
  | .subIyl => Sys2Proof.Machine.execSubIyl s P
  | .subMemIyd d => Sys2Proof.Machine.execSubMemIyd d s P
  | .sbcAIyh => Sys2Proof.Machine.execSbcAIyh s P
  | .sbcAIyl => Sys2Proof.Machine.execSbcAIyl s P
  | .sbcAMemIyd d => Sys2Proof.Machine.execSbcAMemIyd d s P
  | .andIyh => Sys2Proof.Machine.execAndIyh s P
  | .andIyl => Sys2Proof.Machine.execAndIyl s P
  | .andMemIyd d => Sys2Proof.Machine.execAndMemIyd d s P
  | .xorIyh => Sys2Proof.Machine.execXorIyh s P
  | .xorIyl => Sys2Proof.Machine.execXorIyl s P
  | .xorMemIyd d => Sys2Proof.Machine.execXorMemIyd d s P
  | .orIyh => Sys2Proof.Machine.execOrIyh s P
  | .orIyl => Sys2Proof.Machine.execOrIyl s P
  | .orMemIyd d => Sys2Proof.Machine.execOrMemIyd d s P
  | .cpIyh => Sys2Proof.Machine.execCpIyh s P
  | .cpIyl => Sys2Proof.Machine.execCpIyl s P
  | .cpMemIyd d => Sys2Proof.Machine.execCpMemIyd d s P
  | .popIy => Sys2Proof.Machine.execPopIy s P
  | .exMemSpIy => Sys2Proof.Machine.execExMemSpIy s P
  | .pushIy => Sys2Proof.Machine.execPushIy s P
  | .jpIy => Sys2Proof.Machine.execJpIy s P
  | .ldSpIy => Sys2Proof.Machine.execLdSpIy s P
  | .prefixFdCb => .refused .transitionSelected
  | .lonePrefixFd => Sys2Proof.Machine.execLonePrefixFd s P
  | .rlcMemIxd d => Sys2Proof.Machine.execRlcMemIxd d s P
  | .rlcMemIxdR d r => Sys2Proof.Machine.execRlcMemIxdR d r s P
  | .rrcMemIxd d => Sys2Proof.Machine.execRrcMemIxd d s P
  | .rrcMemIxdR d r => Sys2Proof.Machine.execRrcMemIxdR d r s P
  | .rlMemIxd d => Sys2Proof.Machine.execRlMemIxd d s P
  | .rlMemIxdR d r => Sys2Proof.Machine.execRlMemIxdR d r s P
  | .rrMemIxd d => Sys2Proof.Machine.execRrMemIxd d s P
  | .rrMemIxdR d r => Sys2Proof.Machine.execRrMemIxdR d r s P
  | .slaMemIxd d => Sys2Proof.Machine.execSlaMemIxd d s P
  | .slaMemIxdR d r => Sys2Proof.Machine.execSlaMemIxdR d r s P
  | .sraMemIxd d => Sys2Proof.Machine.execSraMemIxd d s P
  | .sraMemIxdR d r => Sys2Proof.Machine.execSraMemIxdR d r s P
  | .slsMemIxd d => Sys2Proof.Machine.execSlsMemIxd d s P
  | .slsMemIxdR d r => Sys2Proof.Machine.execSlsMemIxdR d r s P
  | .srlMemIxd d => Sys2Proof.Machine.execSrlMemIxd d s P
  | .srlMemIxdR d r => Sys2Proof.Machine.execSrlMemIxdR d r s P
  | .bitBMemIxd b d => Sys2Proof.Machine.execBitBMemIxd b d s P
  | .resBMemIxd b d => Sys2Proof.Machine.execResBMemIxd b d s P
  | .resBMemIxdR b d r => Sys2Proof.Machine.execResBMemIxdR b d r s P
  | .setBMemIxd b d => Sys2Proof.Machine.execSetBMemIxd b d s P
  | .setBMemIxdR b d r => Sys2Proof.Machine.execSetBMemIxdR b d r s P
  | .rlcMemIyd d => Sys2Proof.Machine.execRlcMemIyd d s P
  | .rlcMemIydR d r => Sys2Proof.Machine.execRlcMemIydR d r s P
  | .rrcMemIyd d => Sys2Proof.Machine.execRrcMemIyd d s P
  | .rrcMemIydR d r => Sys2Proof.Machine.execRrcMemIydR d r s P
  | .rlMemIyd d => Sys2Proof.Machine.execRlMemIyd d s P
  | .rlMemIydR d r => Sys2Proof.Machine.execRlMemIydR d r s P
  | .rrMemIyd d => Sys2Proof.Machine.execRrMemIyd d s P
  | .rrMemIydR d r => Sys2Proof.Machine.execRrMemIydR d r s P
  | .slaMemIyd d => Sys2Proof.Machine.execSlaMemIyd d s P
  | .slaMemIydR d r => Sys2Proof.Machine.execSlaMemIydR d r s P
  | .sraMemIyd d => Sys2Proof.Machine.execSraMemIyd d s P
  | .sraMemIydR d r => Sys2Proof.Machine.execSraMemIydR d r s P
  | .slsMemIyd d => Sys2Proof.Machine.execSlsMemIyd d s P
  | .slsMemIydR d r => Sys2Proof.Machine.execSlsMemIydR d r s P
  | .srlMemIyd d => Sys2Proof.Machine.execSrlMemIyd d s P
  | .srlMemIydR d r => Sys2Proof.Machine.execSrlMemIydR d r s P
  | .bitBMemIyd b d => Sys2Proof.Machine.execBitBMemIyd b d s P
  | .resBMemIyd b d => Sys2Proof.Machine.execResBMemIyd b d s P
  | .resBMemIydR b d r => Sys2Proof.Machine.execResBMemIydR b d r s P
  | .setBMemIyd b d => Sys2Proof.Machine.execSetBMemIyd b d s P
  | .setBMemIydR b d r => Sys2Proof.Machine.execSetBMemIydR b d r s P

/-- Fetch what the decoder found at PC (log 10) and run the row it selected. -/
def State.goOn (s : State) (d : Decoded) (P : Params) : Answer := execSelected d.instr (s.afterFetch d.length d.m1) P

/-- `prefix CB (enter Bit-ops context)` (R71). -/
def execPrefixCb (s : State) (P : Params := Params.default) : Answer := s.goOn (decodeBitOps (s.byteAhead 0)) P

/-- `prefix ED (enter Extended context)` (R71). -/
def execPrefixEd (s : State) (P : Params := Params.default) : Answer :=
  s.goOn (decodeExtended (s.byteAhead 0) (s.byteAhead 1) (s.byteAhead 2)) P

/-- `prefix DD (enter Indexed context, XY=IX)` (R71). -/
def execPrefixDd (s : State) (P : Params := Params.default) : Answer :=
  s.goOn (decodeIndexed .ix (s.byteAhead 0) (s.byteAhead 1) (s.byteAhead 2)) P

/-- `prefix FD (enter Indexed context, XY=IY)` (R71). -/
def execPrefixFd (s : State) (P : Params := Params.default) : Answer :=
  s.goOn (decodeIndexed .iy (s.byteAhead 0) (s.byteAhead 1) (s.byteAhead 2)) P

/-- `prefix 0xDD CB (enter Indexed-bit-ops context)` (R71). -/
def execPrefixDdCb (s : State) (P : Params := Params.default) : Answer :=
  s.goOn (decodeIndexedBitOps .ix (s.byteAhead 0) (s.byteAhead 1)) P

/-- `prefix 0xFD CB (enter Indexed-bit-ops context)` (R71). -/
def execPrefixFdCb (s : State) (P : Params := Params.default) : Answer :=
  s.goOn (decodeIndexedBitOps .iy (s.byteAhead 0) (s.byteAhead 1)) P

/-! ## The instructions and the step, for any setting of the parameters -/

/-- exec with the parameters of 00_scope.md R6 as an argument: at the default setting it is exec (Laws/Ops.lean). -/
def execWith (P : Params) (i : Instr) (s : State) : Answer :=
  match i with
  | .prefixCb => execPrefixCb s P
  | .prefixEd => execPrefixEd s P
  | .prefixDd => execPrefixDd s P
  | .prefixFd => execPrefixFd s P
  | .prefixDdCb => execPrefixDdCb s P
  | .prefixFdCb => execPrefixFdCb s P
  | other => execSelected other s P

/-- The step with the parameters as an argument: at the default setting it is step. -/
def stepWith (P : Params) (s : State) : Answer := s.stepBy (execWith P) P

end Sys2Proof.Machine
end

