-- ==== Sys2Proof/Machine/Dispatch.lean ====
section
/-! DEFINITION. exec: one arm per constructor of Instr, each one direct call of the instruction's meaning. The state is
the one after the instruction's bytes have been fetched: PC just past them (10_state.md R30), R advanced (R33). -/

namespace Sys2Proof.Machine

def exec (i : Instr) (s : State) : Host.Outcome State Fault Refusal :=
  match i with
  | .nop => Sys2Proof.Machine.execNop s
  | .ldDdNn dd nn => Sys2Proof.Machine.execLdDdNn dd nn s
  | .ldMemBcA => Sys2Proof.Machine.execLdMemBcA s
  | .ldMemDeA => Sys2Proof.Machine.execLdMemDeA s
  | .incSs ss => Sys2Proof.Machine.execIncSs ss s
  | .incR r => Sys2Proof.Machine.execIncR r s
  | .incMemHl => Sys2Proof.Machine.execIncMemHl s
  | .decR r => Sys2Proof.Machine.execDecR r s
  | .decMemHl => Sys2Proof.Machine.execDecMemHl s
  | .ldRN r n => Sys2Proof.Machine.execLdRN r n s
  | .ldMemHlN n => Sys2Proof.Machine.execLdMemHlN n s
  | .rlca => Sys2Proof.Machine.execRlca s
  | .rrca => Sys2Proof.Machine.execRrca s
  | .rla => Sys2Proof.Machine.execRla s
  | .rra => Sys2Proof.Machine.execRra s
  | .exAfAf => Sys2Proof.Machine.execExAfAf s
  | .addHlSs ss => Sys2Proof.Machine.execAddHlSs ss s
  | .ldAMemBc => Sys2Proof.Machine.execLdAMemBc s
  | .ldAMemDe => Sys2Proof.Machine.execLdAMemDe s
  | .decSs ss => Sys2Proof.Machine.execDecSs ss s
  | .djnzE e => Sys2Proof.Machine.execDjnzE e s
  | .jrE e => Sys2Proof.Machine.execJrE e s
  | .jrCcE cc e => Sys2Proof.Machine.execJrCcE cc e s
  | .ldMemNnHl nn => Sys2Proof.Machine.execLdMemNnHl nn s
  | .ldHlMemNn nn => Sys2Proof.Machine.execLdHlMemNn nn s
  | .daa => Sys2Proof.Machine.execDaa s
  | .cpl => Sys2Proof.Machine.execCpl s
  | .scf => Sys2Proof.Machine.execScf s
  | .ccf => Sys2Proof.Machine.execCcf s
  | .ldMemNnA nn => Sys2Proof.Machine.execLdMemNnA nn s
  | .ldAMemNn nn => Sys2Proof.Machine.execLdAMemNn nn s
  | .ldRR r r' => Sys2Proof.Machine.execLdRR r r' s
  | .ldRMemHl r => Sys2Proof.Machine.execLdRMemHl r s
  | .ldMemHlR r => Sys2Proof.Machine.execLdMemHlR r s
  | .halt => Sys2Proof.Machine.execHalt s
  | .addAR r => Sys2Proof.Machine.execAddAR r s
  | .addAMemHl => Sys2Proof.Machine.execAddAMemHl s
  | .addAN n => Sys2Proof.Machine.execAddAN n s
  | .adcAR r => Sys2Proof.Machine.execAdcAR r s
  | .adcAMemHl => Sys2Proof.Machine.execAdcAMemHl s
  | .adcAN n => Sys2Proof.Machine.execAdcAN n s
  | .subR r => Sys2Proof.Machine.execSubR r s
  | .subMemHl => Sys2Proof.Machine.execSubMemHl s
  | .subN n => Sys2Proof.Machine.execSubN n s
  | .sbcAR r => Sys2Proof.Machine.execSbcAR r s
  | .sbcAMemHl => Sys2Proof.Machine.execSbcAMemHl s
  | .sbcAN n => Sys2Proof.Machine.execSbcAN n s
  | .andR r => Sys2Proof.Machine.execAndR r s
  | .andMemHl => Sys2Proof.Machine.execAndMemHl s
  | .andN n => Sys2Proof.Machine.execAndN n s
  | .xorR r => Sys2Proof.Machine.execXorR r s
  | .xorMemHl => Sys2Proof.Machine.execXorMemHl s
  | .xorN n => Sys2Proof.Machine.execXorN n s
  | .orR r => Sys2Proof.Machine.execOrR r s
  | .orMemHl => Sys2Proof.Machine.execOrMemHl s
  | .orN n => Sys2Proof.Machine.execOrN n s
  | .cpR r => Sys2Proof.Machine.execCpR r s
  | .cpMemHl => Sys2Proof.Machine.execCpMemHl s
  | .cpN n => Sys2Proof.Machine.execCpN n s
  | .retCc cc => Sys2Proof.Machine.execRetCc cc s
  | .popQq qq => Sys2Proof.Machine.execPopQq qq s
  | .jpCcNn cc nn => Sys2Proof.Machine.execJpCcNn cc nn s
  | .jpNn nn => Sys2Proof.Machine.execJpNn nn s
  | .callCcNn cc nn => Sys2Proof.Machine.execCallCcNn cc nn s
  | .pushQq qq => Sys2Proof.Machine.execPushQq qq s
  | .rstP p => Sys2Proof.Machine.execRstP p s
  | .ret => Sys2Proof.Machine.execRet s
  | .callNn nn => Sys2Proof.Machine.execCallNn nn s
  | .outPortNA n => Sys2Proof.Machine.execOutPortNA n s
  | .inAPortN n => Sys2Proof.Machine.execInAPortN n s
  | .exx => Sys2Proof.Machine.execExx s
  | .exMemSpHl => Sys2Proof.Machine.execExMemSpHl s
  | .jpHl => Sys2Proof.Machine.execJpHl s
  | .exDeHl => Sys2Proof.Machine.execExDeHl s
  | .di => Sys2Proof.Machine.execDi s
  | .ei => Sys2Proof.Machine.execEi s
  | .ldSpHl => Sys2Proof.Machine.execLdSpHl s
  | .prefixCb => Sys2Proof.Machine.execPrefixCb s
  | .prefixEd => Sys2Proof.Machine.execPrefixEd s
  | .prefixDd => Sys2Proof.Machine.execPrefixDd s
  | .prefixFd => Sys2Proof.Machine.execPrefixFd s
  | .rlcR r => Sys2Proof.Machine.execRlcR r s
  | .rlcMemHl => Sys2Proof.Machine.execRlcMemHl s
  | .rrcR r => Sys2Proof.Machine.execRrcR r s
  | .rrcMemHl => Sys2Proof.Machine.execRrcMemHl s
  | .rlR r => Sys2Proof.Machine.execRlR r s
  | .rlMemHl => Sys2Proof.Machine.execRlMemHl s
  | .rrR r => Sys2Proof.Machine.execRrR r s
  | .rrMemHl => Sys2Proof.Machine.execRrMemHl s
  | .slaR r => Sys2Proof.Machine.execSlaR r s
  | .slaMemHl => Sys2Proof.Machine.execSlaMemHl s
  | .sraR r => Sys2Proof.Machine.execSraR r s
  | .sraMemHl => Sys2Proof.Machine.execSraMemHl s
  | .slsR r => Sys2Proof.Machine.execSlsR r s
  | .slsMemHl => Sys2Proof.Machine.execSlsMemHl s
  | .srlR r => Sys2Proof.Machine.execSrlR r s
  | .srlMemHl => Sys2Proof.Machine.execSrlMemHl s
  | .bitBR b r => Sys2Proof.Machine.execBitBR b r s
  | .bitBMemHl b => Sys2Proof.Machine.execBitBMemHl b s
  | .resBR b r => Sys2Proof.Machine.execResBR b r s
  | .resBMemHl b => Sys2Proof.Machine.execResBMemHl b s
  | .setBR b r => Sys2Proof.Machine.execSetBR b r s
  | .setBMemHl b => Sys2Proof.Machine.execSetBMemHl b s
  | .inRPortC r => Sys2Proof.Machine.execInRPortC r s
  | .inPortC => Sys2Proof.Machine.execInPortC s
  | .outPortCR r => Sys2Proof.Machine.execOutPortCR r s
  | .outPortCZero => Sys2Proof.Machine.execOutPortCZero s
  | .sbcHlSs ss => Sys2Proof.Machine.execSbcHlSs ss s
  | .adcHlSs ss => Sys2Proof.Machine.execAdcHlSs ss s
  | .ldMemNnDd nn dd => Sys2Proof.Machine.execLdMemNnDd nn dd s
  | .ldDdMemNn dd nn => Sys2Proof.Machine.execLdDdMemNn dd nn s
  | .neg => Sys2Proof.Machine.execNeg s
  | .retn => Sys2Proof.Machine.execRetn s
  | .reti => Sys2Proof.Machine.execReti s
  | .im0 => Sys2Proof.Machine.execIm0 s
  | .im1 => Sys2Proof.Machine.execIm1 s
  | .im2 => Sys2Proof.Machine.execIm2 s
  | .ldIA => Sys2Proof.Machine.execLdIA s
  | .ldRA => Sys2Proof.Machine.execLdRA s
  | .ldAI => Sys2Proof.Machine.execLdAI s
  | .ldAR => Sys2Proof.Machine.execLdAR s
  | .rrd => Sys2Proof.Machine.execRrd s
  | .rld => Sys2Proof.Machine.execRld s
  | .ldi => Sys2Proof.Machine.execLdi s
  | .cpi => Sys2Proof.Machine.execCpi s
  | .ini => Sys2Proof.Machine.execIni s
  | .outi => Sys2Proof.Machine.execOuti s
  | .ldd => Sys2Proof.Machine.execLdd s
  | .cpd => Sys2Proof.Machine.execCpd s
  | .ind => Sys2Proof.Machine.execInd s
  | .outd => Sys2Proof.Machine.execOutd s
  | .ldir => Sys2Proof.Machine.execLdir s
  | .cpir => Sys2Proof.Machine.execCpir s
  | .inir => Sys2Proof.Machine.execInir s
  | .otir => Sys2Proof.Machine.execOtir s
  | .lddr => Sys2Proof.Machine.execLddr s
  | .cpdr => Sys2Proof.Machine.execCpdr s
  | .indr => Sys2Proof.Machine.execIndr s
  | .otdr => Sys2Proof.Machine.execOtdr s
  | .edNop op => Sys2Proof.Machine.execEdNop op s
  | .addIxPp pp => Sys2Proof.Machine.execAddIxPp pp s
  | .ldIxNn nn => Sys2Proof.Machine.execLdIxNn nn s
  | .ldMemNnIx nn => Sys2Proof.Machine.execLdMemNnIx nn s
  | .ldIxMemNn nn => Sys2Proof.Machine.execLdIxMemNn nn s
  | .incIx => Sys2Proof.Machine.execIncIx s
  | .decIx => Sys2Proof.Machine.execDecIx s
  | .incIxh => Sys2Proof.Machine.execIncIxh s
  | .incIxl => Sys2Proof.Machine.execIncIxl s
  | .decIxh => Sys2Proof.Machine.execDecIxh s
  | .decIxl => Sys2Proof.Machine.execDecIxl s
  | .ldIxhN n => Sys2Proof.Machine.execLdIxhN n s
  | .ldIxlN n => Sys2Proof.Machine.execLdIxlN n s
  | .incMemIxd d => Sys2Proof.Machine.execIncMemIxd d s
  | .decMemIxd d => Sys2Proof.Machine.execDecMemIxd d s
  | .ldMemIxdN d n => Sys2Proof.Machine.execLdMemIxdN d n s
  | .ldIxhR r => Sys2Proof.Machine.execLdIxhR r s
  | .ldIxlR r => Sys2Proof.Machine.execLdIxlR r s
  | .ldRIxh r => Sys2Proof.Machine.execLdRIxh r s
  | .ldRIxl r => Sys2Proof.Machine.execLdRIxl r s
  | .ldRMemIxd r d => Sys2Proof.Machine.execLdRMemIxd r d s
  | .ldMemIxdR d r => Sys2Proof.Machine.execLdMemIxdR d r s
  | .addAIxh => Sys2Proof.Machine.execAddAIxh s
  | .addAIxl => Sys2Proof.Machine.execAddAIxl s
  | .addAMemIxd d => Sys2Proof.Machine.execAddAMemIxd d s
  | .adcAIxh => Sys2Proof.Machine.execAdcAIxh s
  | .adcAIxl => Sys2Proof.Machine.execAdcAIxl s
  | .adcAMemIxd d => Sys2Proof.Machine.execAdcAMemIxd d s
  | .subIxh => Sys2Proof.Machine.execSubIxh s
  | .subIxl => Sys2Proof.Machine.execSubIxl s
  | .subMemIxd d => Sys2Proof.Machine.execSubMemIxd d s
  | .sbcAIxh => Sys2Proof.Machine.execSbcAIxh s
  | .sbcAIxl => Sys2Proof.Machine.execSbcAIxl s
  | .sbcAMemIxd d => Sys2Proof.Machine.execSbcAMemIxd d s
  | .andIxh => Sys2Proof.Machine.execAndIxh s
  | .andIxl => Sys2Proof.Machine.execAndIxl s
  | .andMemIxd d => Sys2Proof.Machine.execAndMemIxd d s
  | .xorIxh => Sys2Proof.Machine.execXorIxh s
  | .xorIxl => Sys2Proof.Machine.execXorIxl s
  | .xorMemIxd d => Sys2Proof.Machine.execXorMemIxd d s
  | .orIxh => Sys2Proof.Machine.execOrIxh s
  | .orIxl => Sys2Proof.Machine.execOrIxl s
  | .orMemIxd d => Sys2Proof.Machine.execOrMemIxd d s
  | .cpIxh => Sys2Proof.Machine.execCpIxh s
  | .cpIxl => Sys2Proof.Machine.execCpIxl s
  | .cpMemIxd d => Sys2Proof.Machine.execCpMemIxd d s
  | .popIx => Sys2Proof.Machine.execPopIx s
  | .exMemSpIx => Sys2Proof.Machine.execExMemSpIx s
  | .pushIx => Sys2Proof.Machine.execPushIx s
  | .jpIx => Sys2Proof.Machine.execJpIx s
  | .ldSpIx => Sys2Proof.Machine.execLdSpIx s
  | .prefixDdCb => Sys2Proof.Machine.execPrefixDdCb s
  | .lonePrefixDd => Sys2Proof.Machine.execLonePrefixDd s
  | .addIyPp pp => Sys2Proof.Machine.execAddIyPp pp s
  | .ldIyNn nn => Sys2Proof.Machine.execLdIyNn nn s
  | .ldMemNnIy nn => Sys2Proof.Machine.execLdMemNnIy nn s
  | .ldIyMemNn nn => Sys2Proof.Machine.execLdIyMemNn nn s
  | .incIy => Sys2Proof.Machine.execIncIy s
  | .decIy => Sys2Proof.Machine.execDecIy s
  | .incIyh => Sys2Proof.Machine.execIncIyh s
  | .incIyl => Sys2Proof.Machine.execIncIyl s
  | .decIyh => Sys2Proof.Machine.execDecIyh s
  | .decIyl => Sys2Proof.Machine.execDecIyl s
  | .ldIyhN n => Sys2Proof.Machine.execLdIyhN n s
  | .ldIylN n => Sys2Proof.Machine.execLdIylN n s
  | .incMemIyd d => Sys2Proof.Machine.execIncMemIyd d s
  | .decMemIyd d => Sys2Proof.Machine.execDecMemIyd d s
  | .ldMemIydN d n => Sys2Proof.Machine.execLdMemIydN d n s
  | .ldIyhR r => Sys2Proof.Machine.execLdIyhR r s
  | .ldIylR r => Sys2Proof.Machine.execLdIylR r s
  | .ldRIyh r => Sys2Proof.Machine.execLdRIyh r s
  | .ldRIyl r => Sys2Proof.Machine.execLdRIyl r s
  | .ldRMemIyd r d => Sys2Proof.Machine.execLdRMemIyd r d s
  | .ldMemIydR d r => Sys2Proof.Machine.execLdMemIydR d r s
  | .addAIyh => Sys2Proof.Machine.execAddAIyh s
  | .addAIyl => Sys2Proof.Machine.execAddAIyl s
  | .addAMemIyd d => Sys2Proof.Machine.execAddAMemIyd d s
  | .adcAIyh => Sys2Proof.Machine.execAdcAIyh s
  | .adcAIyl => Sys2Proof.Machine.execAdcAIyl s
  | .adcAMemIyd d => Sys2Proof.Machine.execAdcAMemIyd d s
  | .subIyh => Sys2Proof.Machine.execSubIyh s
  | .subIyl => Sys2Proof.Machine.execSubIyl s
  | .subMemIyd d => Sys2Proof.Machine.execSubMemIyd d s
  | .sbcAIyh => Sys2Proof.Machine.execSbcAIyh s
  | .sbcAIyl => Sys2Proof.Machine.execSbcAIyl s
  | .sbcAMemIyd d => Sys2Proof.Machine.execSbcAMemIyd d s
  | .andIyh => Sys2Proof.Machine.execAndIyh s
  | .andIyl => Sys2Proof.Machine.execAndIyl s
  | .andMemIyd d => Sys2Proof.Machine.execAndMemIyd d s
  | .xorIyh => Sys2Proof.Machine.execXorIyh s
  | .xorIyl => Sys2Proof.Machine.execXorIyl s
  | .xorMemIyd d => Sys2Proof.Machine.execXorMemIyd d s
  | .orIyh => Sys2Proof.Machine.execOrIyh s
  | .orIyl => Sys2Proof.Machine.execOrIyl s
  | .orMemIyd d => Sys2Proof.Machine.execOrMemIyd d s
  | .cpIyh => Sys2Proof.Machine.execCpIyh s
  | .cpIyl => Sys2Proof.Machine.execCpIyl s
  | .cpMemIyd d => Sys2Proof.Machine.execCpMemIyd d s
  | .popIy => Sys2Proof.Machine.execPopIy s
  | .exMemSpIy => Sys2Proof.Machine.execExMemSpIy s
  | .pushIy => Sys2Proof.Machine.execPushIy s
  | .jpIy => Sys2Proof.Machine.execJpIy s
  | .ldSpIy => Sys2Proof.Machine.execLdSpIy s
  | .prefixFdCb => Sys2Proof.Machine.execPrefixFdCb s
  | .lonePrefixFd => Sys2Proof.Machine.execLonePrefixFd s
  | .rlcMemIxd d => Sys2Proof.Machine.execRlcMemIxd d s
  | .rlcMemIxdR d r => Sys2Proof.Machine.execRlcMemIxdR d r s
  | .rrcMemIxd d => Sys2Proof.Machine.execRrcMemIxd d s
  | .rrcMemIxdR d r => Sys2Proof.Machine.execRrcMemIxdR d r s
  | .rlMemIxd d => Sys2Proof.Machine.execRlMemIxd d s
  | .rlMemIxdR d r => Sys2Proof.Machine.execRlMemIxdR d r s
  | .rrMemIxd d => Sys2Proof.Machine.execRrMemIxd d s
  | .rrMemIxdR d r => Sys2Proof.Machine.execRrMemIxdR d r s
  | .slaMemIxd d => Sys2Proof.Machine.execSlaMemIxd d s
  | .slaMemIxdR d r => Sys2Proof.Machine.execSlaMemIxdR d r s
  | .sraMemIxd d => Sys2Proof.Machine.execSraMemIxd d s
  | .sraMemIxdR d r => Sys2Proof.Machine.execSraMemIxdR d r s
  | .slsMemIxd d => Sys2Proof.Machine.execSlsMemIxd d s
  | .slsMemIxdR d r => Sys2Proof.Machine.execSlsMemIxdR d r s
  | .srlMemIxd d => Sys2Proof.Machine.execSrlMemIxd d s
  | .srlMemIxdR d r => Sys2Proof.Machine.execSrlMemIxdR d r s
  | .bitBMemIxd b d => Sys2Proof.Machine.execBitBMemIxd b d s
  | .resBMemIxd b d => Sys2Proof.Machine.execResBMemIxd b d s
  | .resBMemIxdR b d r => Sys2Proof.Machine.execResBMemIxdR b d r s
  | .setBMemIxd b d => Sys2Proof.Machine.execSetBMemIxd b d s
  | .setBMemIxdR b d r => Sys2Proof.Machine.execSetBMemIxdR b d r s
  | .rlcMemIyd d => Sys2Proof.Machine.execRlcMemIyd d s
  | .rlcMemIydR d r => Sys2Proof.Machine.execRlcMemIydR d r s
  | .rrcMemIyd d => Sys2Proof.Machine.execRrcMemIyd d s
  | .rrcMemIydR d r => Sys2Proof.Machine.execRrcMemIydR d r s
  | .rlMemIyd d => Sys2Proof.Machine.execRlMemIyd d s
  | .rlMemIydR d r => Sys2Proof.Machine.execRlMemIydR d r s
  | .rrMemIyd d => Sys2Proof.Machine.execRrMemIyd d s
  | .rrMemIydR d r => Sys2Proof.Machine.execRrMemIydR d r s
  | .slaMemIyd d => Sys2Proof.Machine.execSlaMemIyd d s
  | .slaMemIydR d r => Sys2Proof.Machine.execSlaMemIydR d r s
  | .sraMemIyd d => Sys2Proof.Machine.execSraMemIyd d s
  | .sraMemIydR d r => Sys2Proof.Machine.execSraMemIydR d r s
  | .slsMemIyd d => Sys2Proof.Machine.execSlsMemIyd d s
  | .slsMemIydR d r => Sys2Proof.Machine.execSlsMemIydR d r s
  | .srlMemIyd d => Sys2Proof.Machine.execSrlMemIyd d s
  | .srlMemIydR d r => Sys2Proof.Machine.execSrlMemIydR d r s
  | .bitBMemIyd b d => Sys2Proof.Machine.execBitBMemIyd b d s
  | .resBMemIyd b d => Sys2Proof.Machine.execResBMemIyd b d s
  | .resBMemIydR b d r => Sys2Proof.Machine.execResBMemIydR b d r s
  | .setBMemIyd b d => Sys2Proof.Machine.execSetBMemIyd b d s
  | .setBMemIydR b d r => Sys2Proof.Machine.execSetBMemIydR b d r s

end Sys2Proof.Machine
end

