-- ==== Sys2Proof/Machine/Loader.lean ====
section
/-! DEFINITION. The snapshot loader (70_reset_and_hazards.md R382): its effect on the state, not its file formats. No
step calls it; the host may, before the first step (R386). -/

namespace Sys2Proof.Machine

/-- What a snapshot gives: "all Register File fields", the "interrupt flip-flops", the "interrupt mode" and "initial memory
contents" (R382). -/
structure Snapshot where
  a : Byte
  f : Byte
  b : Byte
  c : Byte
  d : Byte
  e : Byte
  h : Byte
  l : Byte
  altA : Byte
  altF : Byte
  altB : Byte
  altC : Byte
  altD : Byte
  altE : Byte
  altH : Byte
  altL : Byte
  ix : Word
  iy : Word
  sp : Word
  pc : Word
  i : Byte
  r : Byte
  iff1 : Bool
  iff2 : Bool
  im : IntMode
  /-- The bytes of memory, with their addresses, in the order in which they are written. -/
  bytes : List (Word × Byte)
  deriving DecidableEq, Repr

/-- The memory after the loader's writes, which no bank mask stops (R382). -/
def Memory.load (m : Memory) : List (Word × Byte) → Memory
  | [] => m
  | (k, v) :: rest => Memory.load (m.write k.toNat v) rest

/-- The loader (R382): budget, `halted` and the event history keep their values (log 16). -/
def State.load (s : State) (w : Snapshot) : State :=
  { s with a := w.a, f := w.f, b := w.b, c := w.c, d := w.d, e := w.e, h := w.h, l := w.l,
           altA := w.altA, altF := w.altF, altB := w.altB, altC := w.altC, altD := w.altD, altE := w.altE,
           altH := w.altH, altL := w.altL, ix := w.ix, iy := w.iy, sp := w.sp, pc := w.pc, i := w.i, r := w.r,
           iff1 := w.iff1, iff2 := w.iff2, im := w.im, mem := s.mem.load w.bytes }

end Sys2Proof.Machine
end

