-- ==== Sys2Proof/Machine/Step.lean ====
section
/-! DEFINITION. One step of the fetch-execute loop (60_exceptions.md R350), and how an instruction is placed where the
next step fetches it. -/

namespace Sys2Proof.Machine

/-- `Step()` (R350) with exec, at the default setting of the parameters. -/
def step (s : State) : Host.Outcome State Fault Refusal := s.stepBy exec Params.default

/-- `s` with an instruction of `nbits` bits and value `w` (its first byte the least significant, zeros after it) where
the next step fetches (log 13). -/
def State.withFetchWord (s : State) (nbits w : Nat) : State := s.readyToFetch.placeAtPc (w % 2 ^ nbits)

end Sys2Proof.Machine
end

