-- ==== Sys2Proof/Safety.lean ====
section
/-! DEFINITION. The terms in which claims are made: what a safe run keeps, what a store changes, and the operand forms
over which a rule of the spec ranges. -/

namespace Sys2Proof.Machine

/-! ## Answers and invariants -/

/-- The answer is a next state: neither a fault nor a refusal. -/
def Completes (o : Answer) : Prop := ∃ t, o = .next t

/-- Memory is in its canonical form (20_memory.md R50; log 20). -/
def MemCanonical (s : State) : Prop := s.mem.wf = true

/-- The budget lies in `[-FRAME_CYCLES, 23)` (10_state.md R38). -/
def BudgetInFrame (s : State) : Prop := -(Config.frameCycles : Int) ≤ s.budget ∧ s.budget < 23

/-- The two interrupt flip-flops agree (10_state.md R35). -/
def IffsAgree (s : State) : Prop := s.iff1 = s.iff2

/-- The instruction that the next step runs, if it runs one: it is decoded after the opportunity, and only where the core
is not halted then (60_exceptions.md R350). -/
def RunsNext (s : State) (i : Instr) : Prop := s.opportunity.halted = false ∧ s.opportunity.decodeAtPc.instr = i

/-! ## What a store changes -/

/-- Every byte of memory reads as before. -/
def SameMemory (s t : State) : Prop := ∀ x : Word, t.readByte x = s.readByte x

/-- The byte at `a` reads `v` where its bank is writable; every other byte, and that one too where its bank is read-only, reads
as before (20_memory.md R54). -/
def StoresByte (s t : State) (a : Word) (v : Byte) : Prop :=
  ∀ x : Word, t.readByte x = if x = a ∧ writable a = true then v else s.readByte x

/-- The word at `a` and the next address, which wraps, with the low byte at `a` (20_memory.md R55). -/
def StoresWord (s t : State) (a : Word) (v : Word) : Prop :=
  ∀ x : Word, t.readByte x =
    if x = a + 1 ∧ writable (a + 1) = true then hiByte v
    else if x = a ∧ writable a = true then loByte v
    else s.readByte x

/-! ## Operand forms -/

/-- The source operands of the accumulator operations (43_arith8.md R200). -/
inductive ByteForm where
  | reg (r : Reg8)
  | memHl
  | imm (n : Byte)
  | xyh (x : IdxReg)
  | xyl (x : IdxReg)
  | memXyd (x : IdxReg) (d : Byte)
  deriving DecidableEq, Repr

/-- The byte the form names. -/
def ByteForm.value (s : State) : ByteForm → Byte
  | .reg r => s.reg8 r
  | .memHl => s.readByte s.hl
  | .imm n => n
  | .xyh x => hiByte (s.xy x)
  | .xyl x => loByte (s.xy x)
  | .memXyd x d => s.readByte (addOffset (s.xy x) d)

/-- The instruction of the alu-table's operation `k` on the form. -/
def ByteForm.alu (k : AluOp) : ByteForm → Instr
  | .reg r => aluReg r k
  | .memHl => aluMemHl k
  | .imm n => aluImm n k
  | .xyh x => aluXyh x k
  | .xyl x => aluXyl x k
  | .memXyd x d => aluMemXyd x d k

/-- The cost of an accumulator operation on the form (R200). -/
def ByteForm.aluCost : ByteForm → Nat
  | .reg _ => 4
  | .memHl => 7
  | .imm _ => 7
  | .xyh _ => 8
  | .xyl _ => 8
  | .memXyd _ _ => 19

/-- The memory operands of the instructions that read, change and write one byte: (HL), (IX+d) and (IY+d). -/
inductive PlaceForm where
  | hl
  | xyd (x : IdxReg) (d : Byte)
  deriving DecidableEq, Repr

/-- The address of the operand (30_encoding.md R77, R79). -/
def PlaceForm.address (s : State) : PlaceForm → Word
  | .hl => s.hl
  | .xyd x d => addOffset (s.xy x) d

/-- INC of the operand. -/
def PlaceForm.inc : PlaceForm → Instr
  | .hl => .incMemHl
  | .xyd x d => x.pick (.incMemIxd d) (.incMemIyd d)

/-- DEC of the operand. -/
def PlaceForm.dec : PlaceForm → Instr
  | .hl => .decMemHl
  | .xyd x d => x.pick (.decMemIxd d) (.decMemIyd d)

/-- A rotate or shift of the operand. -/
def PlaceForm.rot (k : RotOp) : PlaceForm → Instr
  | .hl => rotMemHl k
  | .xyd x d => rotMemXyd x d k

/-- BIT on the operand. -/
def PlaceForm.bit (b : Fin 8) : PlaceForm → Instr
  | .hl => .bitBMemHl b
  | .xyd x d => x.pick (.bitBMemIxd b d) (.bitBMemIyd b d)

/-- RES on the operand. -/
def PlaceForm.res (b : Fin 8) : PlaceForm → Instr
  | .hl => .resBMemHl b
  | .xyd x d => x.pick (.resBMemIxd b d) (.resBMemIyd b d)

/-- SET on the operand. -/
def PlaceForm.set (b : Fin 8) : PlaceForm → Instr
  | .hl => .setBMemHl b
  | .xyd x d => x.pick (.setBMemIxd b d) (.setBMemIyd b d)

/-- The cost of a byte of memory read, changed and written, by form: `near` at (HL), `far` at (XY+d). -/
def PlaceForm.cost (near far : Nat) : PlaceForm → Nat
  | .hl => near
  | .xyd _ _ => far

/-! ## Flags and results, as the spec writes them -/

/-- S, Z, F5 and F3 mirror the 8-bit result (40_alu.md R101). -/
def Mirrors (g : Flags) (r : Byte) : Prop :=
  g.s = decide (128 ≤ r.toNat) ∧ g.z = decide (r = 0) ∧ g.f5 = r.getLsbD 5 ∧ g.f3 = r.getLsbD 3

/-- S, Z, F5 and F3 mirror the 16-bit result, F5 and F3 its high byte (R101, R116). -/
def Mirrors16 (g : Flags) (r : Word) : Prop :=
  g.s = decide (32768 ≤ r.toNat) ∧ g.z = decide (r = 0) ∧ g.f5 = r.getLsbD 13 ∧ g.f3 = r.getLsbD 11

/-- The number of set bits is even (R103). -/
def evenParity (v : Byte) : Bool := decide (((List.range 8).countP fun k => v.getLsbD k) % 2 = 0)

/-- An 8-bit signed value out of range (R124). -/
def overflows8 (w : Int) : Bool := decide (w < -128 ∨ 127 < w)

/-- A 16-bit signed value out of range (R124). -/
def overflows16 (w : Int) : Bool := decide (w < -32768 ∨ 32767 < w)

/-- The result and the outgoing bit of each rotate and shift, as the table of R110 puts the bits together. -/
def rotTable (v : Byte) (cin : Bool) : RotOp → Byte × Bool
  | .rlc => (v.extractLsb' 0 7 ++ v.extractLsb' 7 1, v.getLsbD 7)
  | .rrc => (v.extractLsb' 0 1 ++ v.extractLsb' 1 7, v.getLsbD 0)
  | .rl => (v.extractLsb' 0 7 ++ BitVec.ofBool cin, v.getLsbD 7)
  | .rr => (BitVec.ofBool cin ++ v.extractLsb' 1 7, v.getLsbD 0)
  | .sla => (v.extractLsb' 0 7 ++ 0#1, v.getLsbD 7)
  | .sra => (v.extractLsb' 7 1 ++ v.extractLsb' 1 7, v.getLsbD 0)
  | .sls => (v.extractLsb' 0 7 ++ 1#1, v.getLsbD 7)
  | .srl => (0#1 ++ v.extractLsb' 1 7, v.getLsbD 0)

/-- The condition of the cc-table on the flag byte (30_encoding.md R80). -/
def condHolds (f : Byte) : Cond → Bool
  | .nz => f.getLsbD 6 == false
  | .z => f.getLsbD 6 == true
  | .nc => f.getLsbD 0 == false
  | .c => f.getLsbD 0 == true
  | .po => f.getLsbD 2 == false
  | .pe => f.getLsbD 2 == true
  | .p => f.getLsbD 7 == false
  | .m => f.getLsbD 7 == true

/-! ## Frames: what may change, and to what -/

/-- The answer is `s` with the register `r` holding `v` and `cost` more in the budget; every other register, every flag, memory and
the event history as before. -/
def LoadsReg8 (s : State) (o : Answer) (r : Reg8) (v : Byte) (cost : Nat) : Prop :=
  ∃ t, o = .next t ∧
    t = { s with a := t.a, b := t.b, c := t.c, d := t.d, e := t.e, h := t.h, l := t.l, budget := s.budget + cost } ∧
    ∀ q : Reg8, t.reg8 q = if q = r then v else s.reg8 q

/-- The answer is `s` with the pair `p` holding `v` and `cost` more in the budget. -/
def LoadsPair (s : State) (o : Answer) (p : Pair) (v : Word) (cost : Nat) : Prop :=
  ∃ t, o = .next t ∧
    t = { s with b := t.b, c := t.c, d := t.d, e := t.e, h := t.h, l := t.l, sp := t.sp, budget := s.budget + cost } ∧
    ∀ q : Pair, t.pair q = if q = p then v else s.pair q

/-- The answer is `s` with the index register `x` holding `v` and `cost` more in the budget. -/
def LoadsXy (s : State) (o : Answer) (x : IdxReg) (v : Word) (cost : Nat) : Prop :=
  ∃ t, o = .next t ∧ t = { s with ix := t.ix, iy := t.iy, budget := s.budget + cost } ∧
    ∀ y : IdxReg, t.xy y = if y = x then v else s.xy y

/-- The answer is `s` with the byte `v` stored at `a` and `cost` more in the budget: no register, no flag and no other byte of
memory changes. -/
def StoresOnlyByte (s : State) (o : Answer) (a : Word) (v : Byte) (cost : Nat) : Prop :=
  ∃ t, o = .next t ∧ t = { s with mem := t.mem, budget := s.budget + cost } ∧ StoresByte s t a v

/-- The answer is `s` with the word `v` stored at `a` and `cost` more in the budget. -/
def StoresOnlyWord (s : State) (o : Answer) (a v : Word) (cost : Nat) : Prop :=
  ∃ t, o = .next t ∧ t = { s with mem := t.mem, budget := s.budget + cost } ∧ StoresWord s t a v

/-- The answer is `s` with the word `v` pushed, PC at `target` and `cost` more in the budget. -/
def PushesAndGoes (s : State) (o : Answer) (v target : Word) (cost : Nat) : Prop :=
  ∃ t, o = .next t ∧ t = { s with sp := s.sp - 2, pc := target, mem := t.mem, budget := s.budget + cost } ∧
    StoresWord s t (s.sp - 2) v

/-! ## The repeat loop -/

/-- A repeat form, described through its single-step form (47_block.md R308, with `BLOCK_R_MODE` = doc): the next iteration is
the single step with R advanced by one; the form ends there when `done` holds; it stops at the checkpoint with PC on its first byte
when the budget after 21 cycles is not negative; else it is the same form again. `last` is what the form does to the flags when it
ends. -/
def RepeatsSingleStep (s : State) (again single : Instr) (done : State → Bool) (last : State → State) : Prop :=
  ∃ t, exec single { s with r := bumpR s.r 1 } = .next t ∧
    exec again s =
      if done t = true then .next (last t)
      else if 0 ≤ s.budget + 21 then .next { last t with pc := s.pc - 2, budget := s.budget + 21 }
      else exec again { t with budget := s.budget + 21 }

/-- The address `k` bytes on from `w` in the direction of a block instruction. -/
def BlockDir.ahead (dir : BlockDir) (w : Word) (k : Nat) : Word :=
  match dir with
  | .up => w + BitVec.ofNat 16 k
  | .down => w - BitVec.ofNat 16 k

/-- Memory after `k` iterations of a block transfer from `src` to `dst`, byte by byte: iteration `k` reads what the iterations before it
left, so that overlapping blocks are covered (47_block.md R309, R310; 20_memory.md R54). -/
def State.copied (s : State) (dir : BlockDir) (src dst : Word) : Nat → Word → Byte
  | 0, x => s.readByte x
  | k + 1, x =>
    if x = dir.ahead dst k ∧ writable x = true then s.copied dir src dst k (dir.ahead src k) else s.copied dir src dst k x

/-- By how much `n` iterations of a repeat form advance R beyond its two fetches (R308, D7). -/
def blockRefresh (mode : BlockRMode) (n : Nat) : Nat :=
  match mode with
  | .doc => n
  | .refetch => 2 * (n - 1)

/-! ## Costs -/

/-- The instructions whose cost is their CycleTable entry (60_exceptions.md R351): all but HALT, the repeat forms and the decode
transitions. -/
def hasTableCost : Instr → Bool
  | .halt | .ldir | .lddr | .cpir | .cpdr | .inir | .indr | .otir | .otdr => false
  | .prefixCb | .prefixEd | .prefixDd | .prefixFd | .prefixDdCb | .prefixFdCb => false
  | _ => true

/-! ## Port instructions -/

/-- The instructions that reach the port space (20_memory.md R60). -/
def usesPorts : Instr → Bool
  | .inAPortN _ | .inRPortC _ | .inPortC | .outPortNA _ | .outPortCR _ | .outPortCZero => true
  | .ini | .ind | .outi | .outd | .inir | .indr | .otir | .otdr => true
  | _ => false

/-- The PC an event is tagged with (R63). -/
def eventPc : PortEvent → Word
  | .input _ _ p => p
  | .output _ _ p => p

/-- The byte a port read gives: 0xFF where the port is declared unmatched, else what the oracle answers from the history
(R62). -/
def readsFromPort (s : State) (port : Word) : Byte :=
  if Config.portUnmatched port = true then 0xFF else Config.portOracle s.events port

/-! ## Bytes that select an indexed form -/

/-- The bytes after 0xDD or 0xFD that have an indexed form (30_encoding.md R86). -/
def hasIndexedForm (op : Byte) : Bool :=
  op == 0x09 || op == 0x19 || op == 0x29 || op == 0x39 || (0x21 ≤ op && op ≤ 0x26) || (0x2A ≤ op && op ≤ 0x2E) ||
  op == 0x34 || op == 0x35 || op == 0x36 ||
  (0x40 ≤ op && op ≤ 0x7F && op != 0x76 &&
    (opY op == 4 || opY op == 5 || opY op == 6 || opZ op == 4 || opZ op == 5 || opZ op == 6)) ||
  (0x80 ≤ op && op ≤ 0xBF && (opZ op == 4 || opZ op == 5 || opZ op == 6)) ||
  op == 0xE1 || op == 0xE3 || op == 0xE5 || op == 0xE9 || op == 0xF9

/-- What may follow the encoding of `i` without changing what it decodes to: anything, but that after a lone prefix a byte
must stand that has no indexed form and is not 0xCB (30_encoding.md R87). -/
def MayFollow (i : Instr) (rest : List Byte) : Prop :=
  match i, rest with
  | .lonePrefixDd, [] => False
  | .lonePrefixFd, [] => False
  | .lonePrefixDd, b :: _ => hasIndexedForm b = false ∧ b ≠ 0xCB
  | .lonePrefixFd, b :: _ => hasIndexedForm b = false ∧ b ≠ 0xCB
  | _, _ => True

/-- The M1 fetches of an instruction with the bytes `bs` (30_encoding.md R95): two where a prefix byte and a byte after it
are fetched, else one. -/
def m1Fetches : List Byte → Nat
  | [] => 0
  | [_] => 1
  | b :: _ :: _ => if b = 0xCB ∨ b = 0xED ∨ b = 0xDD ∨ b = 0xFD then 2 else 1

/-- The second encodings the spec gives some instructions: those of NEG, RETN, RETI and IM after 0xED (30_encoding.md R85, D23), and
those of BIT b,(XY+d), whose low three bits are ignored (45_rotate_bit.md R263). -/
def isSecondEncoding (b0 b1 b3 : Byte) : Bool :=
  (b0 == 0xED && [0x4C, 0x54, 0x5C, 0x64, 0x6C, 0x74, 0x7C, 0x55, 0x65, 0x75, 0x5D, 0x6D, 0x7D,
    0x4E, 0x66, 0x6E, 0x76, 0x7E].contains b1) ||
  ((b0 == 0xDD || b0 == 0xFD) && b1 == 0xCB && opX b3 == 1 && opZ b3 != 6)

end Sys2Proof.Machine
end

