-- ==== Sys2Proof/Certificates/Slice0/Obligations.lean ====
section
/-! DEFINITION. The statements for the provers: def Obligations.<Name> : Prop, each with the rule of the spec that it
formalises. A statement that rests on a choice of the spec's own (D<n>) or of the model (log <n>) says so; every cycle cost given
below is the CycleTable's default (D3, log 8). -/

section SliceObligations

open Sys2Proof Sys2Proof.Machine

/-! ## Encoding, decoding and the step -/

/-- Words written out from the encodings of 30_encoding.md R83 to R88, one or more of each family of the table, decode to the
instruction each stands for, with its length (R90) and its M1 fetches (R95). The opcode bytes are the spec's general knowledge (log 21), and
that 0xDD before a byte without an indexed form is a lone prefix, here 0xDD 0xEB, is its own choice D9. -/
def Obligations.SampleWordsDecode : Prop :=
  decode [0x3E, 0xA5] = .ok ⟨.ldRN .a 0xA5, 2, 1⟩ ∧
  decode [0x66] = .ok ⟨.ldRMemHl .h, 1, 1⟩ ∧
  decode [0x01, 0x34, 0x12] = .ok ⟨.ldDdNn .bc 0x1234, 3, 1⟩ ∧
  decode [0xF5] = .ok ⟨.pushQq .af, 1, 1⟩ ∧
  decode [0x9C] = .ok ⟨.sbcAR .h, 1, 1⟩ ∧
  decode [0xED, 0x7A] = .ok ⟨.adcHlSs .sp, 2, 2⟩ ∧
  decode [0xCB, 0x5E] = .ok ⟨.bitBMemHl 3, 2, 2⟩ ∧
  decode [0xDD, 0xCB, 0xFE, 0x30] = .ok ⟨.slsMemIxdR 0xFE .b, 4, 2⟩ ∧
  decode [0xDA, 0x00, 0x90] = .ok ⟨.jpCcNn .c 0x9000, 3, 1⟩ ∧
  decode [0xEF] = .ok ⟨.rstP 0x28, 1, 1⟩ ∧
  decode [0xED, 0xB8] = .ok ⟨.lddr, 2, 2⟩ ∧
  decode [0xED, 0x50] = .ok ⟨.inRPortC .d, 2, 2⟩ ∧
  decode [0xFD, 0x75, 0x80] = .ok ⟨.ldMemIydR 0x80 .l, 3, 2⟩ ∧
  decode [0xFD, 0x7C] = .ok ⟨.ldRIyh .a, 2, 2⟩ ∧
  decode [0xDD, 0xEB] = .ok ⟨.lonePrefixDd, 1, 1⟩ ∧
  decode [0xED, 0xED] = .ok ⟨.edNop 0xED, 2, 2⟩

/-- Decoding the encoding of a well-formed instruction gives it back, with its length and its M1 fetches (R70, R95), whatever
follows it; after a lone prefix the next byte must have no indexed form (R87). -/
def Obligations.EncodeThenDecode : Prop :=
  ∀ (i : Instr) (rest : List Byte), i.wellFormed = true → MayFollow i rest →
    decode (encode i ++ rest) = .ok ⟨i, (encode i).length, m1Fetches (encode i)⟩

/-- Every memory content decodes, at every PC, to exactly one instruction form, which the bytes from PC on alone decide; the decoder never
refuses (R97), whatever follows. The form is well-formed, of one to four bytes, and never a decode transition. -/
def Obligations.EveryByteSequenceDecodes : Prop :=
  (∀ (b0 b1 b2 b3 : Byte) (rest : List Byte), ∃ d : Decoded,
    decode (b0 :: b1 :: b2 :: b3 :: rest) = .ok d ∧
    (∀ s : State, s.readByte s.pc = b0 → s.readByte (s.pc + 1) = b1 → s.readByte (s.pc + 2) = b2 →
      s.readByte (s.pc + 3) = b3 → s.decodeAtPc = d) ∧
    d.instr.wellFormed = true ∧ d.length = (encode d.instr).length ∧ 1 ≤ d.length ∧ d.length ≤ 4 ∧
    d.m1 = m1Fetches (encode d.instr))

/-- The bytes an instruction was decoded from are its encoding, in every context, but for the second encodings that the spec gives NEG,
RETN, RETI and IM (R85) and BIT b,(XY+d) (R263); and what each of those decodes to. That the aliases after 0xED exist is the spec's own
choice D23, and that they share a constructor is the model's (log 15). -/
def Obligations.DecodedBytesAreTheEncoding : Prop :=
  (∀ b0 b1 b2 b3 : Byte, isSecondEncoding b0 b1 b3 = false →
    encode (decodeBytes b0 b1 b2 b3).instr = [b0, b1, b2, b3].take (decodeBytes b0 b1 b2 b3).length) ∧
  (∀ b2 b3 : Byte,
    (∀ op ∈ [0x4C, 0x54, 0x5C, 0x64, 0x6C, 0x74, 0x7C], decodeBytes 0xED op b2 b3 = ⟨.neg, 2, 2⟩) ∧
    (∀ op ∈ [0x55, 0x65, 0x75], decodeBytes 0xED op b2 b3 = ⟨.retn, 2, 2⟩) ∧
    (∀ op ∈ [0x5D, 0x6D, 0x7D], decodeBytes 0xED op b2 b3 = ⟨.reti, 2, 2⟩) ∧
    (∀ op ∈ [0x4E, 0x66, 0x6E], decodeBytes 0xED op b2 b3 = ⟨.im0, 2, 2⟩) ∧
    decodeBytes 0xED 0x76 b2 b3 = ⟨.im1, 2, 2⟩ ∧ decodeBytes 0xED 0x7E b2 b3 = ⟨.im2, 2, 2⟩) ∧
  (∀ (b z : Fin 8) (d : Byte),
    decodeBytes 0xDD 0xCB d (BitVec.ofNat 8 (64 + 8 * b.val + z.val)) = ⟨.bitBMemIxd b d, 4, 2⟩ ∧
    decodeBytes 0xFD 0xCB d (BitVec.ofNat 8 (64 + 8 * b.val + z.val)) = ⟨.bitBMemIyd b d, 4, 2⟩)

/-- A step in which the core is not halted after the opportunity is exec of the instruction decoded from the bytes at PC, in the state
whose PC has moved past them and whose R has counted the M1 fetches (60_exceptions.md R350, 30_encoding.md R72, R73). -/
def Obligations.StepRunsDecodedInstruction : Prop :=
  ∀ (s o : State) (d : Decoded), o = s.opportunity → o.halted = false →
    d = decodeBytes (o.readByte o.pc) (o.readByte (o.pc + 1)) (o.readByte (o.pc + 2)) (o.readByte (o.pc + 3)) →
    step s = exec d.instr { o with
      pc := o.pc + BitVec.ofNat 16 d.length
      r := (o.r &&& 0x80) ||| BitVec.ofNat 8 ((o.r.toNat % 128 + d.m1) % 128) }

/-- Where memory holds, from PC on, the encoding of a well-formed instruction, and the step takes no opportunity and is not halted,
the step is exec of that instruction, PC just past it and R advanced as R95 says. -/
def Obligations.StepRunsEncodedInstruction : Prop :=
  ∀ (s : State) (i : Instr), s.budget < 0 → s.halted = false → i.wellFormed = true →
    (∀ k b, (encode i)[k]? = some b → s.readByte (s.pc + BitVec.ofNat 16 k) = b) →
    MayFollow i [s.readByte (s.pc + BitVec.ofNat 16 (encode i).length)] →
    step s = exec i { s with
      pc := s.pc + BitVec.ofNat 16 (encode i).length
      r := bumpR s.r (m1Fetches (encode i)) }

/-- A decode transition goes on to the row that the selected context reads at PC (R71; log 9): that row's answer, a next state,
is the transition's. -/
def Obligations.TransitionRunsSelectedRow : Prop :=
  ∀ (s : State) (i : Instr) (d : Decoded),
    (i = .prefixCb ∧ d = decodeBitOps (s.readByte s.pc) ∨
     i = .prefixEd ∧ d = decodeExtended (s.readByte s.pc) (s.readByte (s.pc + 1)) (s.readByte (s.pc + 2)) ∨
     i = .prefixDd ∧ d = decodeIndexed .ix (s.readByte s.pc) (s.readByte (s.pc + 1)) (s.readByte (s.pc + 2)) ∨
     i = .prefixFd ∧ d = decodeIndexed .iy (s.readByte s.pc) (s.readByte (s.pc + 1)) (s.readByte (s.pc + 2)) ∨
     i = .prefixDdCb ∧ d = decodeIndexedBitOps .ix (s.readByte s.pc) (s.readByte (s.pc + 1)) ∨
     i = .prefixFdCb ∧ d = decodeIndexedBitOps .iy (s.readByte s.pc) (s.readByte (s.pc + 1))) →
    ∃ t, exec i s = .next t ∧
      exec d.instr { s with pc := s.pc + BitVec.ofNat 16 d.length, r := bumpR s.r d.m1 } = .next t

/-! ## Reset and invariants -/

/-- What reset leaves, for every draw of the reset oracle (70_reset_and_hazards.md R380, 10_state.md R42; D13, D17), and that the first
step takes no interrupt opportunity (R381). That the memory list is then empty, so that every byte reads 0x00, is the model's choice (log 2,
log 20): R380 says only that reset does not write memory. -/
def Obligations.ResetValues : Prop :=
  ∀ w : ResetDraws,
    State.resetWith w =
      { a := w.a, f := 0, b := w.b, c := w.c, d := w.d, e := w.e, h := w.h, l := w.l,
        altA := w.altA, altF := w.altF, altB := w.altB, altC := w.altC, altD := w.altD, altE := w.altE,
        altH := w.altH, altL := w.altL, ix := w.ix, iy := w.iy, sp := 0, pc := 0, i := w.i, r := w.r,
        iff1 := false, iff2 := false, im := .mode0, budget := -(Config.frameCycles : Int), halted := false,
        mem := [], events := [] } ∧
    (State.resetWith w).opportunity = State.resetWith w

/-- The three invariants hold at reset, for every draw: the canonical form of memory, which is the model's own (log 20) over memory that
lists nothing (log 2), the budget's bounds (10_state.md R38), and IFF1 = IFF2 (R35, from R380). -/
def Obligations.ResetMeetsInvariants : Prop :=
  ∀ w : ResetDraws, MemCanonical (State.resetWith w) ∧ BudgetInFrame (State.resetWith w) ∧ IffsAgree (State.resetWith w)

/-- Every step keeps the memory list in its canonical form: equal memories are equal data (20_memory.md R50; log 20). -/
def Obligations.StepKeepsMemoryCanonical : Prop :=
  ∀ s t : State, MemCanonical s → step s = .next t → MemCanonical t

/-- Every step keeps the budget in `[-FRAME_CYCLES, 23)` (10_state.md R38; the costs are the CycleTable's, log 8). -/
def Obligations.StepKeepsBudgetInFrame : Prop :=
  ∀ s t : State, BudgetInFrame s → step s = .next t → BudgetInFrame t

/-- No step and no instruction faults or is refused: each answers a next state (60_exceptions.md R360, 30_encoding.md R92). -/
def Obligations.NothingFaults : Prop :=
  (∀ s : State, Completes (step s)) ∧ (∀ (i : Instr) (s : State), Completes (exec i s))

/-- A byte of a bank that is not writable reads the same after a step: what a step changes lies in a writable bank
(20_memory.md R54, R56). -/
def Obligations.ReadOnlyBanksNeverChange : Prop :=
  ∀ (s t : State) (x : Word), step s = .next t → t.readByte x = s.readByte x ∨ Config.bankReadOnly (bankOf x) = false

/-- Every step keeps IFF1 = IFF2: only a loaded starting state makes them differ (10_state.md R35; D16, log 7). -/
def Obligations.StepKeepsIffsAgree : Prop :=
  ∀ s t : State, IffsAgree s → step s = .next t → IffsAgree t

/-- Who changes the control registers: I, IM, bit 7 of R, the flip-flops and `halted` change in a step only as 10_state.md R32, R34,
R35, R36 and R40 say (D13). -/
def Obligations.ControlRegisterWriters : Prop :=
  ∀ s t : State, step s = .next t →
    (t.i ≠ s.i → RunsNext s .ldIA) ∧
    (t.im ≠ s.im → RunsNext s .im0 ∨ RunsNext s .im1 ∨ RunsNext s .im2) ∧
    (t.r.getLsbD 7 ≠ s.r.getLsbD 7 → RunsNext s .ldRA) ∧
    (t.iff1 ≠ s.iff1 ∨ t.iff2 ≠ s.iff2 →
      (0 ≤ s.budget ∧ s.iff1 = true) ∨ RunsNext s .di ∨ RunsNext s .ei ∨ RunsNext s .retn ∨ RunsNext s .reti) ∧
    (t.halted = true → s.halted = false → RunsNext s .halt) ∧
    (t.halted = false → s.halted = true → 0 ≤ s.budget ∧ s.iff1 = true)

/-- The shadow set changes only by EX AF,AF′ and EXX (10_state.md R23), and IX or IY only by an instruction whose first byte is 0xDD or
0xFD (R24). -/
def Obligations.ShadowAndIndexWriters : Prop :=
  ∀ s t : State, step s = .next t →
    (t.altA ≠ s.altA ∨ t.altF ≠ s.altF → RunsNext s .exAfAf) ∧
    (t.altB ≠ s.altB ∨ t.altC ≠ s.altC ∨ t.altD ≠ s.altD ∨ t.altE ≠ s.altE ∨ t.altH ≠ s.altH ∨ t.altL ≠ s.altL →
      RunsNext s .exx) ∧
    (t.ix ≠ s.ix → s.opportunity.halted = false ∧ s.opportunity.readByte s.opportunity.pc = 0xDD) ∧
    (t.iy ≠ s.iy → s.opportunity.halted = false ∧ s.opportunity.readByte s.opportunity.pc = 0xFD)

/-- The event history only grows, only by the port instructions, and each new event carries the PC of the instruction that performed
it (20_memory.md R60, R63; log 14). -/
def Obligations.HistoryGrowsByPortInstructions : Prop :=
  ∀ s t : State, step s = .next t →
    ∃ new : List PortEvent, t.events = s.events ++ new ∧
      (new ≠ [] → s.opportunity.halted = false ∧ usesPorts s.opportunity.decodeAtPc.instr = true) ∧
      ∀ e ∈ new, eventPc e = s.opportunity.pc

/-- R advances by IncR only on its low seven bits (10_state.md R33). -/
def Obligations.IncRKeepsBit7 : Prop :=
  ∀ (s : State) (n : Nat),
    s.incR n = { s with r := (s.incR n).r } ∧
    (s.incR n).r.toNat % 128 = (s.r.toNat % 128 + n) % 128 ∧
    (s.incR n).r.getLsbD 7 = s.r.getLsbD 7

/-! ## Memory -/

/-- A word is read low byte first, and the address after 0xFFFF is 0x0000 (20_memory.md R53). -/
def Obligations.WordReadIsLittleEndianAndWraps : Prop :=
  ∀ s : State,
    (∀ a : Word, (s.readWord a).toNat = 256 * (s.readByte (BitVec.ofNat 16 (a.toNat + 1))).toNat + (s.readByte a).toNat) ∧
    (s.readByte 0xFFFF = 0x34 → s.readByte 0x0000 = 0x12 → s.readWord 0xFFFF = 0x1234)

/-- The loader (70_reset_and_hazards.md R382): the registers as given, the last byte given for an address and every other byte as
before, whatever the bank; the budget, `halted` and the history kept (D31, log 16). -/
def Obligations.LoaderEffect : Prop :=
  ∀ (s : State) (w : Snapshot), MemCanonical s →
    s.load w =
      { s with a := w.a, f := w.f, b := w.b, c := w.c, d := w.d, e := w.e, h := w.h, l := w.l,
               altA := w.altA, altF := w.altF, altB := w.altB, altC := w.altC, altD := w.altD, altE := w.altE,
               altH := w.altH, altL := w.altL, ix := w.ix, iy := w.iy, sp := w.sp, pc := w.pc, i := w.i, r := w.r,
               iff1 := w.iff1, iff2 := w.iff2, im := w.im, mem := (s.load w).mem } ∧
    ∀ x : Word, (s.load w).readByte x =
      ((w.bytes.reverse.find? fun p => p.1 == x).map fun p => p.2).getD (s.readByte x)

/-! ## The arithmetic primitives -/

/-- `add8` and `sub8` as 40_alu.md R104 and R105 write them, on unbounded integers, and who uses them: ADD and SUB with no carry
in, ADC and SBC with F.C, NEG as 0 less A (the cost is left open here). -/
def Obligations.Add8AndSub8 : Prop :=
  (∀ (a b : Byte) (cin : Bool),
    (add8 a b cin).1.toNat = (a.toNat + b.toNat + cin.toNat) % 256 ∧
    Mirrors (add8 a b cin).2 (add8 a b cin).1 ∧
    (add8 a b cin).2.h = decide (0xF < a.toNat % 16 + b.toNat % 16 + cin.toNat) ∧
    (add8 a b cin).2.pv = decide (a.getLsbD 7 = b.getLsbD 7 ∧ (add8 a b cin).1.getLsbD 7 ≠ a.getLsbD 7) ∧
    (add8 a b cin).2.n = false ∧
    (add8 a b cin).2.c = decide (0xFF < a.toNat + b.toNat + cin.toNat) ∧
    ((sub8 a b cin).1.toNat : Int) = ((a.toNat : Int) - b.toNat - cin.toNat) % 256 ∧
    Mirrors (sub8 a b cin).2 (sub8 a b cin).1 ∧
    (sub8 a b cin).2.h = decide ((a.toNat % 16 : Int) - (b.toNat % 16 : Int) - cin.toNat < 0) ∧
    (sub8 a b cin).2.pv = decide (a.getLsbD 7 ≠ b.getLsbD 7 ∧ (sub8 a b cin).1.getLsbD 7 = b.getLsbD 7) ∧
    (sub8 a b cin).2.n = true ∧
    (sub8 a b cin).2.c = decide ((a.toNat : Int) - b.toNat - cin.toNat < 0)) ∧
  (∀ (s : State) (src : ByteForm) (v : Byte) (cf : Bool), v = src.value s → cf = s.f.getLsbD 0 →
    (∃ c, exec (src.alu .add) s = .next { s with a := (add8 s.a v false).1, f := (add8 s.a v false).2.toByte, budget := c }) ∧
    (∃ c, exec (src.alu .adc) s = .next { s with a := (add8 s.a v cf).1, f := (add8 s.a v cf).2.toByte, budget := c }) ∧
    (∃ c, exec (src.alu .sub) s = .next { s with a := (sub8 s.a v false).1, f := (sub8 s.a v false).2.toByte, budget := c }) ∧
    (∃ c, exec (src.alu .sbc) s = .next { s with a := (sub8 s.a v cf).1, f := (sub8 s.a v cf).2.toByte, budget := c }) ∧
    (∃ c, exec .neg s = .next { s with a := (sub8 0 s.a false).1, f := (sub8 0 s.a false).2.toByte, budget := c }))

/-- `inc8` and `dec8` (R107, R108): the flags of an add or a subtract of 1, PV at the one overflow, C unchanged. -/
def Obligations.Inc8AndDec8 : Prop :=
  ∀ (v : Byte) (g0 : Flags),
    ((inc8 v g0).1.toNat = (v.toNat + 1) % 256 ∧ Mirrors (inc8 v g0).2 (inc8 v g0).1 ∧
      (inc8 v g0).2.h = decide (v.toNat % 16 = 15) ∧ (inc8 v g0).2.pv = decide (v = 0x7F) ∧
      (inc8 v g0).2.n = false ∧ (inc8 v g0).2.c = g0.c) ∧
    (((dec8 v g0).1.toNat : Int) = ((v.toNat : Int) - 1) % 256 ∧ Mirrors (dec8 v g0).2 (dec8 v g0).1 ∧
      (dec8 v g0).2.h = decide (v.toNat % 16 = 0) ∧ (dec8 v g0).2.pv = decide (v = 0x80) ∧
      (dec8 v g0).2.n = true ∧ (dec8 v g0).2.c = g0.c)

/-- `and8`, `xor8` and `or8` (R109) with the parity of R103. -/
def Obligations.LogicPrimitives : Prop :=
  ∀ (a b : Byte),
    (∀ v : Byte, parity v = evenParity v) ∧
    (∀ k < 8, (and8 a b).1.getLsbD k = (a.getLsbD k && b.getLsbD k) ∧
      (xor8 a b).1.getLsbD k = (a.getLsbD k != b.getLsbD k) ∧ (or8 a b).1.getLsbD k = (a.getLsbD k || b.getLsbD k)) ∧
    (∀ p ∈ [and8 a b, xor8 a b, or8 a b],
      Mirrors p.2 p.1 ∧ p.2.pv = evenParity p.1 ∧ p.2.n = false ∧ p.2.c = false) ∧
    (and8 a b).2.h = true ∧ (xor8 a b).2.h = false ∧ (or8 a b).2.h = false

/-- `adc16` and `sbc16` (R115), which ADC HL,ss and SBC HL,ss call with F.C (the cost is left open here). -/
def Obligations.Adc16AndSbc16 : Prop :=
  (∀ (a b : Word) (cin : Bool),
    ((adc16 a b cin).1.toNat = (a.toNat + b.toNat + cin.toNat) % 65536 ∧ Mirrors16 (adc16 a b cin).2 (adc16 a b cin).1 ∧
      (adc16 a b cin).2.h = decide (0xFFF < a.toNat % 4096 + b.toNat % 4096 + cin.toNat) ∧
      (adc16 a b cin).2.pv = decide (a.getLsbD 15 = b.getLsbD 15 ∧ (adc16 a b cin).1.getLsbD 15 ≠ a.getLsbD 15) ∧
      (adc16 a b cin).2.n = false ∧ (adc16 a b cin).2.c = decide (0xFFFF < a.toNat + b.toNat + cin.toNat)) ∧
    (((sbc16 a b cin).1.toNat : Int) = ((a.toNat : Int) - b.toNat - cin.toNat) % 65536 ∧
      Mirrors16 (sbc16 a b cin).2 (sbc16 a b cin).1 ∧
      (sbc16 a b cin).2.h = decide (a.toNat % 4096 < b.toNat % 4096 + cin.toNat) ∧
      (sbc16 a b cin).2.pv = decide (a.getLsbD 15 ≠ b.getLsbD 15 ∧ (sbc16 a b cin).1.getLsbD 15 = b.getLsbD 15) ∧
      (sbc16 a b cin).2.n = true ∧ (sbc16 a b cin).2.c = decide (a.toNat < b.toNat + cin.toNat))) ∧
  (∀ (s : State) (ss : Pair) (hl v : Word) (cf : Bool), hl = wordOf s.h s.l → v = s.pair ss → cf = s.f.getLsbD 0 →
    (∃ c, exec (.adcHlSs ss) s = .next { s with
      h := hiByte (adc16 hl v cf).1, l := loByte (adc16 hl v cf).1, f := (adc16 hl v cf).2.toByte, budget := c }) ∧
    (∃ c, exec (.sbcHlSs ss) s = .next { s with
      h := hiByte (sbc16 hl v cf).1, l := loByte (sbc16 hl v cf).1, f := (sbc16 hl v cf).2.toByte, budget := c }))

/-- The laws of R124: a subtract undoes an add; PV is set exactly when the signed sum or difference is out of range, at both widths;
a value less itself; the ends of inc8 and dec8. -/
def Obligations.ArithmeticLaws : Prop :=
  (∀ a b : Byte, (sub8 (add8 a b false).1 b false).1 = a) ∧
  (∀ (a b : Byte) (cin : Bool), (add8 a b cin).2.pv = overflows8 (a.toInt + b.toInt + cin.toNat) ∧
    (sub8 a b cin).2.pv = overflows8 (a.toInt - b.toInt - cin.toNat)) ∧
  (∀ (a b : Word) (cin : Bool), (adc16 a b cin).2.pv = overflows16 (a.toInt + b.toInt + cin.toNat) ∧
    (sbc16 a b cin).2.pv = overflows16 (a.toInt - b.toInt - cin.toNat)) ∧
  (∀ a : Byte, (sub8 a a false).1 = 0 ∧ (sub8 a a false).2.z = true ∧ (sub8 a a false).2.c = false ∧
    (sub8 a a false).2.h = false ∧ (sub8 a a false).2.pv = false ∧ (sub8 a a false).2.n = true) ∧
  (∀ g : Flags, (inc8 0xFF g).1 = 0x00 ∧ (inc8 0xFF g).2.z = true ∧ (inc8 0xFF g).2.h = true ∧
    (inc8 0xFF g).2.pv = false ∧ (inc8 0xFF g).2.c = g.c) ∧
  (∀ g : Flags, (dec8 0x00 g).1 = 0xFF ∧ (dec8 0x00 g).2.s = true ∧ (dec8 0x00 g).2.h = true ∧
    (dec8 0x00 g).2.pv = false ∧ (dec8 0x00 g).2.c = g.c)

/-- `daa` after an add of two packed BCD bytes, with or without a carry in, gives the packed BCD sum and its carry (R104, R118). -/
def Obligations.DaaGivesDecimalSum : Prop :=
  ∀ (x y : Fin 100) (cin : Bool),
    let bcd (n : Nat) : Byte := BitVec.ofNat 8 (16 * (n / 10 % 10) + n % 10)
    let sum := add8 (bcd x.val) (bcd y.val) cin
    (daa sum.1 sum.2).1 = bcd ((x.val + y.val + cin.toNat) % 100) ∧
    (daa sum.1 sum.2).2.c = decide (100 ≤ x.val + y.val + cin.toNat)

/-! ## 8-bit loads -/

/-- LD r,r′, LD r,n, LD r,(HL), LD r,(XY+d), LD r,XYH, LD r,XYL, the loads of A from (BC), (DE) and (nn), and the loads of an index
half: the register, or the half, takes the byte, and nothing else changes, the other half included (41_load8.md R140 to R142, R145,
R147, R149 to R151; real H and L beside (XY+d), D10). -/
def Obligations.LoadRegister8 : Prop :=
  ∀ (s : State) (r r' : Reg8) (x : RegX) (n d : Byte) (nn : Word),
    LoadsReg8 s (exec (.ldRR r r') s) r (s.reg8 r') 4 ∧
    LoadsReg8 s (exec (.ldRN r n) s) r n 7 ∧
    LoadsReg8 s (exec (.ldRMemHl r) s) r (s.readByte (wordOf s.h s.l)) 7 ∧
    LoadsReg8 s (exec (.ldRMemIxd r d) s) r (s.readByte (addOffset s.ix d)) 19 ∧
    LoadsReg8 s (exec (.ldRMemIyd r d) s) r (s.readByte (addOffset s.iy d)) 19 ∧
    LoadsReg8 s (exec (.ldRIxh r) s) r (hiByte s.ix) 8 ∧
    LoadsReg8 s (exec (.ldRIxl r) s) r (loByte s.ix) 8 ∧
    LoadsReg8 s (exec (.ldRIyh r) s) r (hiByte s.iy) 8 ∧
    LoadsReg8 s (exec (.ldRIyl r) s) r (loByte s.iy) 8 ∧
    LoadsReg8 s (exec .ldAMemBc s) .a (s.readByte (wordOf s.b s.c)) 7 ∧
    LoadsReg8 s (exec .ldAMemDe s) .a (s.readByte (wordOf s.d s.e)) 7 ∧
    LoadsReg8 s (exec (.ldAMemNn nn) s) .a (s.readByte nn) 13 ∧
    LoadsXy s (exec (.ldIxhR x) s) .ix (wordOf (s.regX .ix x) (loByte s.ix)) 8 ∧
    LoadsXy s (exec (.ldIxlR x) s) .ix (wordOf (hiByte s.ix) (s.regX .ix x)) 8 ∧
    LoadsXy s (exec (.ldIyhR x) s) .iy (wordOf (s.regX .iy x) (loByte s.iy)) 8 ∧
    LoadsXy s (exec (.ldIylR x) s) .iy (wordOf (hiByte s.iy) (s.regX .iy x)) 8 ∧
    LoadsXy s (exec (.ldIxhN n) s) .ix (wordOf n (loByte s.ix)) 11 ∧
    LoadsXy s (exec (.ldIxlN n) s) .ix (wordOf (hiByte s.ix) n) 11 ∧
    LoadsXy s (exec (.ldIyhN n) s) .iy (wordOf n (loByte s.iy)) 11 ∧
    LoadsXy s (exec (.ldIylN n) s) .iy (wordOf (hiByte s.iy) n) 11

/-- The stores: LD (HL),r, LD (HL),n, LD (BC),A, LD (DE),A, LD (nn),A, LD (XY+d),r and LD (XY+d),n store a byte, LD (nn),HL, LD (nn),dd
and LD (nn),XY a word, at the address they name, and change nothing else (41_load8.md R143, R144, R146, R148, R152, R153;
42_load16_exchange.md R175 to R177; 20_memory.md R54, R55). That LD (XY+d),H and LD (XY+d),L store the real H and L is the spec's own
choice D10, and the low byte first D37. -/
def Obligations.Stores : Prop :=
  ∀ (s : State) (r : Reg8) (dd : Pair) (n d : Byte) (nn : Word), MemCanonical s →
    StoresOnlyByte s (exec (.ldMemHlR r) s) (wordOf s.h s.l) (s.reg8 r) 7 ∧
    StoresOnlyByte s (exec (.ldMemHlN n) s) (wordOf s.h s.l) n 10 ∧
    StoresOnlyByte s (exec .ldMemBcA s) (wordOf s.b s.c) s.a 7 ∧
    StoresOnlyByte s (exec .ldMemDeA s) (wordOf s.d s.e) s.a 7 ∧
    StoresOnlyByte s (exec (.ldMemNnA nn) s) nn s.a 13 ∧
    StoresOnlyByte s (exec (.ldMemIxdR d r) s) (addOffset s.ix d) (s.reg8 r) 19 ∧
    StoresOnlyByte s (exec (.ldMemIydR d r) s) (addOffset s.iy d) (s.reg8 r) 19 ∧
    StoresOnlyByte s (exec (.ldMemIxdN d n) s) (addOffset s.ix d) n 19 ∧
    StoresOnlyByte s (exec (.ldMemIydN d n) s) (addOffset s.iy d) n 19 ∧
    StoresOnlyWord s (exec (.ldMemNnHl nn) s) nn (wordOf s.h s.l) 16 ∧
    StoresOnlyWord s (exec (.ldMemNnDd nn dd) s) nn (s.pair dd) 20 ∧
    StoresOnlyWord s (exec (.ldMemNnIx nn) s) nn s.ix 20 ∧
    StoresOnlyWord s (exec (.ldMemNnIy nn) s) nn s.iy 20

/-- LD A,I and LD A,R: A, and the flags from the value read with PV = IFF2 and C unchanged; LD I,A and LD R,A: all 8 bits
(41_load8.md R154 to R157). The flags of LD A,I and LD A,R are the spec's own choice D41 (log 21). -/
def Obligations.SpecialRegisterMoves : Prop :=
  ∀ s : State,
    (∃ g : Flags, exec .ldAI s = .next { s with a := s.i, f := g.toByte, budget := s.budget + 9 } ∧
      Mirrors g s.i ∧ g.h = false ∧ g.pv = s.iff2 ∧ g.n = false ∧ g.c = s.f.getLsbD 0) ∧
    (∃ g : Flags, exec .ldAR s = .next { s with a := s.r, f := g.toByte, budget := s.budget + 9 } ∧
      Mirrors g s.r ∧ g.h = false ∧ g.pv = s.iff2 ∧ g.n = false ∧ g.c = s.f.getLsbD 0) ∧
    exec .ldIA s = .next { s with i := s.a, budget := s.budget + 9 } ∧
    exec .ldRA s = .next { s with r := s.a, budget := s.budget + 9 }

/-! ## 16-bit loads, stack and exchanges -/

/-- The 16-bit loads of a pair, of IX, IY and of SP (42_load16_exchange.md R170 to R174, R178, R179). -/
def Obligations.LoadPair16 : Prop :=
  ∀ (s : State) (dd : Pair) (nn : Word),
    LoadsPair s (exec (.ldDdNn dd nn) s) dd nn 10 ∧
    LoadsPair s (exec (.ldHlMemNn nn) s) .hl (s.readWord nn) 16 ∧
    LoadsPair s (exec (.ldDdMemNn dd nn) s) dd (s.readWord nn) 20 ∧
    LoadsXy s (exec (.ldIxNn nn) s) .ix nn 14 ∧
    LoadsXy s (exec (.ldIyNn nn) s) .iy nn 14 ∧
    LoadsXy s (exec (.ldIxMemNn nn) s) .ix (s.readWord nn) 20 ∧
    LoadsXy s (exec (.ldIyMemNn nn) s) .iy (s.readWord nn) 20 ∧
    LoadsPair s (exec .ldSpHl s) .sp (wordOf s.h s.l) 6 ∧
    LoadsPair s (exec .ldSpIx s) .sp s.ix 10 ∧
    LoadsPair s (exec .ldSpIy s) .sp s.iy 10

/-- PUSH: SP goes down by two and the word is stored there. POP: the pair takes the word at SP, POP AF all of F, and SP goes up by two.
Nothing else changes (42_load16_exchange.md R180 to R183; 20_memory.md R57). -/
def Obligations.PushAndPop : Prop :=
  ∀ (s : State) (qq : PairQ), MemCanonical s →
    PushesAndGoes s (exec (.pushQq qq) s) (s.pairQ qq) s.pc 11 ∧
    PushesAndGoes s (exec .pushIx s) s.ix s.pc 15 ∧
    PushesAndGoes s (exec .pushIy s) s.iy s.pc 15 ∧
    (∃ t, exec (.popQq qq) s = .next t ∧
      t = { s with a := t.a, f := t.f, b := t.b, c := t.c, d := t.d, e := t.e, h := t.h, l := t.l,
                   sp := s.sp + 2, budget := s.budget + 10 } ∧
      ∀ p : PairQ, t.pairQ p = if p = qq then s.readWord s.sp else s.pairQ p) ∧
    exec .popIx s = .next { s with ix := s.readWord s.sp, sp := s.sp + 2, budget := s.budget + 14 } ∧
    exec .popIy s = .next { s with iy := s.readWord s.sp, sp := s.sp + 2, budget := s.budget + 14 }

/-- EX DE,HL, EX AF,AF′ and EXX, the last two their own inverses; EX (SP),HL and EX (SP),XY exchange the register and the word at SP, which
keeps its value (42_load16_exchange.md R184 to R188; 10_state.md R23). -/
def Obligations.Exchanges : Prop :=
  ∀ s : State, MemCanonical s →
    exec .exDeHl s = .next { s with d := s.h, e := s.l, h := s.d, l := s.e, budget := s.budget + 4 } ∧
    (∃ t, exec .exAfAf s = .next t ∧ t.a = s.altA ∧ t.f = s.altF ∧ t.altA = s.a ∧ t.altF = s.f ∧
      t = { s with a := t.a, f := t.f, altA := t.altA, altF := t.altF, budget := s.budget + 4 } ∧
      exec .exAfAf t = .next { s with budget := s.budget + 8 }) ∧
    (∃ t, exec .exx s = .next t ∧
      t.b = s.altB ∧ t.c = s.altC ∧ t.d = s.altD ∧ t.e = s.altE ∧ t.h = s.altH ∧ t.l = s.altL ∧
      t.altB = s.b ∧ t.altC = s.c ∧ t.altD = s.d ∧ t.altE = s.e ∧ t.altH = s.h ∧ t.altL = s.l ∧
      t = { s with b := t.b, c := t.c, d := t.d, e := t.e, h := t.h, l := t.l, altB := t.altB, altC := t.altC,
                   altD := t.altD, altE := t.altE, altH := t.altH, altL := t.altL, budget := s.budget + 4 } ∧
      exec .exx t = .next { s with budget := s.budget + 8 }) ∧
    (∃ t, exec .exMemSpHl s = .next t ∧ t = { s with h := t.h, l := t.l, mem := t.mem, budget := s.budget + 19 } ∧
      wordOf t.h t.l = s.readWord s.sp ∧ StoresWord s t s.sp (wordOf s.h s.l)) ∧
    (∃ t, exec .exMemSpIx s = .next t ∧ t = { s with ix := s.readWord s.sp, mem := t.mem, budget := s.budget + 23 } ∧
      StoresWord s t s.sp s.ix) ∧
    (∃ t, exec .exMemSpIy s = .next t ∧ t = { s with iy := s.readWord s.sp, mem := t.mem, budget := s.budget + 23 } ∧
      StoresWord s t s.sp s.iy)

/-! ## 8-bit arithmetic and logic -/

/-- ADD A,s and ADC A,s in every operand form of 43_arith8.md R200: A takes the sum, F all eight flags, and nothing else
changes (R201, R202). -/
def Obligations.AddAndAdc : Prop :=
  ∀ (s : State) (src : ByteForm) (k : AluOp) (cin : Bool),
    (k = .add ∧ cin = false ∨ k = .adc ∧ cin = s.f.getLsbD 0) →
    ∃ (r : Byte) (g : Flags),
      exec (src.alu k) s = .next { s with a := r, f := g.toByte, budget := s.budget + src.aluCost } ∧
      r.toNat = (s.a.toNat + (src.value s).toNat + cin.toNat) % 256 ∧ Mirrors g r ∧
      g.h = decide (0xF < s.a.toNat % 16 + (src.value s).toNat % 16 + cin.toNat) ∧
      g.pv = overflows8 (s.a.toInt + (src.value s).toInt + cin.toNat) ∧ g.n = false ∧
      g.c = decide (0xFF < s.a.toNat + (src.value s).toNat + cin.toNat)

/-- SUB s, SBC A,s and CP s in every operand form: CP leaves A as it is and takes the flags of SUB, F5 and F3 included (R203, R204, R208;
40_alu.md R105, R106, D24). -/
def Obligations.SubSbcAndCp : Prop :=
  ∀ (s : State) (src : ByteForm) (k : AluOp) (cin : Bool),
    (k = .sub ∧ cin = false ∨ k = .sbc ∧ cin = s.f.getLsbD 0 ∨ k = .cp ∧ cin = false) →
    ∃ (r : Byte) (g : Flags),
      exec (src.alu k) s =
        .next { s with a := if k = .cp then s.a else r, f := g.toByte, budget := s.budget + src.aluCost } ∧
      (r.toNat : Int) = ((s.a.toNat : Int) - (src.value s).toNat - cin.toNat) % 256 ∧ Mirrors g r ∧
      g.h = decide (s.a.toNat % 16 < (src.value s).toNat % 16 + cin.toNat) ∧
      g.pv = overflows8 (s.a.toInt - (src.value s).toInt - cin.toNat) ∧ g.n = true ∧
      g.c = decide (s.a.toNat < (src.value s).toNat + cin.toNat)

/-- AND s, XOR s and OR s in every operand form (R205 to R207). -/
def Obligations.AndXorOr : Prop :=
  ∀ (s : State) (src : ByteForm) (k : AluOp) (r : Byte),
    (k = .and ∧ r = s.a &&& src.value s ∨ k = .xor ∧ r = s.a ^^^ src.value s ∨ k = .or ∧ r = s.a ||| src.value s) →
    ∃ g : Flags,
      exec (src.alu k) s = .next { s with a := r, f := g.toByte, budget := s.budget + src.aluCost } ∧
      Mirrors g r ∧ g.h = decide (k = .and) ∧ g.pv = evenParity r ∧ g.n = false ∧ g.c = false

/-- INC and DEC of a register and of an index half: only that register, or that half, and F change, and C keeps its value (R209, R211,
R213, R215; 40_alu.md R107, R108). -/
def Obligations.IncDecRegister8 : Prop :=
  ∀ (s : State) (r : Reg8),
    (∃ t, exec (.incR r) s = .next t ∧
      t = { s with a := t.a, b := t.b, c := t.c, d := t.d, e := t.e, h := t.h, l := t.l,
                   f := (inc8 (s.reg8 r) s.flags).2.toByte, budget := s.budget + 4 } ∧
      ∀ q : Reg8, t.reg8 q = if q = r then s.reg8 r + 1 else s.reg8 q) ∧
    (∃ t, exec (.decR r) s = .next t ∧
      t = { s with a := t.a, b := t.b, c := t.c, d := t.d, e := t.e, h := t.h, l := t.l,
                   f := (dec8 (s.reg8 r) s.flags).2.toByte, budget := s.budget + 4 } ∧
      ∀ q : Reg8, t.reg8 q = if q = r then s.reg8 r - 1 else s.reg8 q) ∧
    exec .incIxh s = .next { s with ix := wordOf (hiByte s.ix + 1) (loByte s.ix),
                                    f := (inc8 (hiByte s.ix) s.flags).2.toByte, budget := s.budget + 8 } ∧
    exec .incIxl s = .next { s with ix := wordOf (hiByte s.ix) (loByte s.ix + 1),
                                    f := (inc8 (loByte s.ix) s.flags).2.toByte, budget := s.budget + 8 } ∧
    exec .decIxh s = .next { s with ix := wordOf (hiByte s.ix - 1) (loByte s.ix),
                                    f := (dec8 (hiByte s.ix) s.flags).2.toByte, budget := s.budget + 8 } ∧
    exec .decIxl s = .next { s with ix := wordOf (hiByte s.ix) (loByte s.ix - 1),
                                    f := (dec8 (loByte s.ix) s.flags).2.toByte, budget := s.budget + 8 } ∧
    exec .incIyh s = .next { s with iy := wordOf (hiByte s.iy + 1) (loByte s.iy),
                                    f := (inc8 (hiByte s.iy) s.flags).2.toByte, budget := s.budget + 8 } ∧
    exec .incIyl s = .next { s with iy := wordOf (hiByte s.iy) (loByte s.iy + 1),
                                    f := (inc8 (loByte s.iy) s.flags).2.toByte, budget := s.budget + 8 } ∧
    exec .decIyh s = .next { s with iy := wordOf (hiByte s.iy - 1) (loByte s.iy),
                                    f := (dec8 (hiByte s.iy) s.flags).2.toByte, budget := s.budget + 8 } ∧
    exec .decIyl s = .next { s with iy := wordOf (hiByte s.iy) (loByte s.iy - 1),
                                    f := (dec8 (loByte s.iy) s.flags).2.toByte, budget := s.budget + 8 }

/-- INC and DEC of the byte at (HL), (IX+d) or (IY+d): only that byte and F change (R210, R212, R214, R216). -/
def Obligations.IncDecMemory8 : Prop :=
  ∀ (s : State) (m : PlaceForm) (v : Byte), MemCanonical s → v = s.readByte (m.address s) →
    (∃ t, exec m.inc s = .next t ∧
      t = { s with f := (inc8 v s.flags).2.toByte, mem := t.mem, budget := s.budget + m.cost 11 23 } ∧
      StoresByte s t (m.address s) (v + 1)) ∧
    (∃ t, exec m.dec s = .next t ∧
      t = { s with f := (dec8 v s.flags).2.toByte, mem := t.mem, budget := s.budget + m.cost 11 23 } ∧
      StoresByte s t (m.address s) (v - 1))

/-- DAA, CPL, NEG, CCF and SCF: A and F as 40_alu.md R118, R120 and R122 say, nothing else (43_arith8.md R217 to R221; D26). -/
def Obligations.AccumulatorAdjust : Prop :=
  ∀ s : State,
    (∃ (corr r : Byte) (g : Flags),
      exec .daa s = .next { s with a := r, f := g.toByte, budget := s.budget + 4 } ∧
      corr = (if s.f.getLsbD 4 = true ∨ 9 < s.a.toNat % 16 then 0x06 else 0) |||
             (if s.f.getLsbD 0 = true ∨ 0x99 < s.a.toNat then 0x60 else 0) ∧
      r = (if s.f.getLsbD 1 = true then s.a - corr else s.a + corr) ∧ Mirrors g r ∧
      g.h = (if s.f.getLsbD 1 = true then decide (s.a.toNat % 16 < corr.toNat % 16)
             else decide (0xF < s.a.toNat % 16 + corr.toNat % 16)) ∧
      g.pv = evenParity r ∧ g.n = s.f.getLsbD 1 ∧ g.c = (s.f.getLsbD 0 || decide (0x99 < s.a.toNat))) ∧
    (∃ g : Flags, exec .cpl s = .next { s with a := s.a ^^^ 0xFF, f := g.toByte, budget := s.budget + 4 } ∧
      g = { s.flags with h := true, n := true, f5 := !s.a.getLsbD 5, f3 := !s.a.getLsbD 3 }) ∧
    (∃ g : Flags, exec .neg s = .next { s with a := 0 - s.a, f := g.toByte, budget := s.budget + 8 } ∧
      Mirrors g (0 - s.a) ∧ g.h = decide (s.a.toNat % 16 ≠ 0) ∧ g.pv = decide (s.a = 0x80) ∧ g.n = true ∧
      g.c = decide (s.a ≠ 0)) ∧
    (∃ g : Flags, exec .ccf s = .next { s with f := g.toByte, budget := s.budget + 4 } ∧
      g = { s.flags with c := !s.f.getLsbD 0, h := s.f.getLsbD 0, n := false, f5 := s.a.getLsbD 5, f3 := s.a.getLsbD 3 }) ∧
    (∃ g : Flags, exec .scf s = .next { s with f := g.toByte, budget := s.budget + 4 } ∧
      g = { s.flags with c := true, h := false, n := false, f5 := s.a.getLsbD 5, f3 := s.a.getLsbD 3 })

/-! ## 16-bit arithmetic -/

/-- ADD HL,ss, ADD IX,pp and ADD IY,pp: the sum, H from bit 11, C from bit 15, F5 and F3 from bits 13 and 11; S, Z and PV
unchanged (44_arith16.md R230, R231; 40_alu.md R114 with `ADD16_SZPV` false, D36, log 7). -/
def Obligations.AddPair16 : Prop :=
  ∀ (s : State) (ss : Pair) (pp : PairX),
    let after (a b r : Word) (g : Flags) : Prop :=
      r.toNat = (a.toNat + b.toNat) % 65536 ∧
      g = { s.flags with h := decide (0xFFF < a.toNat % 4096 + b.toNat % 4096), n := false,
                         c := decide (0xFFFF < a.toNat + b.toNat), f5 := r.getLsbD 13, f3 := r.getLsbD 11 }
    (∃ (r : Word) (g : Flags),
      exec (.addHlSs ss) s = .next { s with h := hiByte r, l := loByte r, f := g.toByte, budget := s.budget + 11 } ∧
      after (wordOf s.h s.l) (s.pair ss) r g) ∧
    (∃ (r : Word) (g : Flags), exec (.addIxPp pp) s = .next { s with ix := r, f := g.toByte, budget := s.budget + 15 } ∧
      after s.ix (s.pairX .ix pp) r g) ∧
    (∃ (r : Word) (g : Flags), exec (.addIyPp pp) s = .next { s with iy := r, f := g.toByte, budget := s.budget + 15 } ∧
      after s.iy (s.pairX .iy pp) r g)

/-- ADC HL,ss and SBC HL,ss: HL and all eight flags (44_arith16.md R232, R233). -/
def Obligations.AdcSbcPair16 : Prop :=
  ∀ (s : State) (ss : Pair) (hl v : Word) (cin : Bool), hl = wordOf s.h s.l → v = s.pair ss → cin = s.f.getLsbD 0 →
    (∃ (r : Word) (g : Flags),
      exec (.adcHlSs ss) s = .next { s with h := hiByte r, l := loByte r, f := g.toByte, budget := s.budget + 15 } ∧
      r.toNat = (hl.toNat + v.toNat + cin.toNat) % 65536 ∧ Mirrors16 g r ∧
      g.h = decide (0xFFF < hl.toNat % 4096 + v.toNat % 4096 + cin.toNat) ∧
      g.pv = overflows16 (hl.toInt + v.toInt + cin.toNat) ∧ g.n = false ∧
      g.c = decide (0xFFFF < hl.toNat + v.toNat + cin.toNat)) ∧
    (∃ (r : Word) (g : Flags),
      exec (.sbcHlSs ss) s = .next { s with h := hiByte r, l := loByte r, f := g.toByte, budget := s.budget + 15 } ∧
      (r.toNat : Int) = ((hl.toNat : Int) - v.toNat - cin.toNat) % 65536 ∧ Mirrors16 g r ∧
      g.h = decide (hl.toNat % 4096 < v.toNat % 4096 + cin.toNat) ∧
      g.pv = overflows16 (hl.toInt - v.toInt - cin.toNat) ∧ g.n = true ∧
      g.c = decide (hl.toNat < v.toNat + cin.toNat))

/-- INC and DEC of a pair and of IX and IY: the register alone, no flag (44_arith16.md R234 to R237). -/
def Obligations.IncDecPair16 : Prop :=
  ∀ (s : State) (ss : Pair),
    LoadsPair s (exec (.incSs ss) s) ss (s.pair ss + 1) 6 ∧
    LoadsPair s (exec (.decSs ss) s) ss (s.pair ss - 1) 6 ∧
    LoadsXy s (exec .incIx s) .ix (s.ix + 1) 10 ∧
    LoadsXy s (exec .incIy s) .iy (s.iy + 1) 10 ∧
    LoadsXy s (exec .decIx s) .ix (s.ix - 1) 10 ∧
    LoadsXy s (exec .decIy s) .iy (s.iy - 1) 10

/-! ## Rotates, shifts and bit operations -/

/-- RLCA, RRCA, RLA and RRA: A, F5, F3, H, N and C; S, Z and PV unchanged (45_rotate_bit.md R245 to R248; 40_alu.md R111, D25). -/
def Obligations.RotateAccumulator : Prop :=
  ∀ (s : State) (i : Instr) (k : RotOp) (r : Byte) (out : Bool),
    (i = .rlca ∧ k = .rlc ∨ i = .rrca ∧ k = .rrc ∨ i = .rla ∧ k = .rl ∨ i = .rra ∧ k = .rr) →
    (r, out) = rotTable s.a (s.f.getLsbD 0) k →
    exec i s = .next { s with
      a := r
      f := Flags.toByte { s.flags with f5 := r.getLsbD 5, f3 := r.getLsbD 3, h := false, n := false, c := out }
      budget := s.budget + 4 }

/-- The eight rotates and shifts of a register: the register and all eight flags (45_rotate_bit.md R250 to R257). -/
def Obligations.RotateRegister : Prop :=
  ∀ (s : State) (k : RotOp) (q r' : Reg8) (r : Byte) (out : Bool), (r, out) = rotTable (s.reg8 q) (s.f.getLsbD 0) k →
    ∃ (t : State) (g : Flags), exec (rotReg q k) s = .next t ∧
      t = { s with a := t.a, b := t.b, c := t.c, d := t.d, e := t.e, h := t.h, l := t.l, f := g.toByte,
                   budget := s.budget + 8 } ∧
      t.reg8 r' = (if r' = q then r else s.reg8 r') ∧
      Mirrors g r ∧ g.h = false ∧ g.pv = evenParity r ∧ g.n = false ∧ g.c = out

/-- The eight rotates and shifts of the byte at (HL), (IX+d) or (IY+d): that byte and all eight flags; the indexed forms with a register
field put the result in the register too, also where the bank is read-only (45_rotate_bit.md R250 to R257, R261, R262 with
`IXCB_REG_COPY` true, D11, log 7). -/
def Obligations.RotateMemory : Prop :=
  (∀ (s : State) (k : RotOp) (m : PlaceForm) (r : Byte) (out : Bool), MemCanonical s →
    (r, out) = rotTable (s.readByte (m.address s)) (s.f.getLsbD 0) k →
    ∃ (t : State) (g : Flags), exec (m.rot k) s = .next t ∧
      t = { s with f := g.toByte, mem := t.mem, budget := s.budget + m.cost 15 23 } ∧
      StoresByte s t (m.address s) r ∧
      Mirrors g r ∧ g.h = false ∧ g.pv = evenParity r ∧ g.n = false ∧ g.c = out) ∧
  (∀ (s : State) (k : RotOp) (x : IdxReg) (d : Byte) (q : Reg8) (a : Word) (r : Byte) (out : Bool), MemCanonical s →
    a = addOffset (s.xy x) d → (r, out) = rotTable (s.readByte a) (s.f.getLsbD 0) k →
    ∃ (t : State) (g : Flags), exec (rotMemXydReg x d q k) s = .next t ∧
      t = { s with a := t.a, b := t.b, c := t.c, d := t.d, e := t.e, h := t.h, l := t.l, f := g.toByte, mem := t.mem,
                   budget := s.budget + 23 } ∧
      (∀ p : Reg8, t.reg8 p = if p = q then r else s.reg8 p) ∧ StoresByte s t a r ∧
      Mirrors g r ∧ g.h = false ∧ g.pv = evenParity r ∧ g.n = false ∧ g.c = out)

/-- BIT in every form writes F and nothing else: Z and PV the complement of the bit, S the bit for bit 7 only, H set, N clear, F5 and F3
from the byte, C unchanged (45_rotate_bit.md R258, R263; 40_alu.md R112, D12, D34). -/
def Obligations.BitTests : Prop :=
  ∀ (s : State) (b : Fin 8) (q : Reg8) (m : PlaceForm),
    let flagsOf (v : Byte) : Byte :=
      Flags.toByte { s.flags with z := !v.getLsbD b, pv := !v.getLsbD b, s := decide (b = 7) && v.getLsbD 7, h := true,
                                  n := false, f5 := v.getLsbD 5, f3 := v.getLsbD 3 }
    exec (.bitBR b q) s = .next { s with f := flagsOf (s.reg8 q), budget := s.budget + 8 } ∧
    exec (m.bit b) s = .next { s with f := flagsOf (s.readByte (m.address s)), budget := s.budget + m.cost 12 20 }

/-- RES and SET of a register, of the byte at (HL), (IX+d) or (IY+d), and the indexed forms that copy the result to a register: that bit
alone, no flag (45_rotate_bit.md R259, R260, R264, R265; 40_alu.md R113; D11, log 7). -/
def Obligations.ResAndSet : Prop :=
  (∀ (s : State) (b : Fin 8) (q : Reg8),
    ∃ vr vs : Byte,
      (∀ k : Fin 8, vr.getLsbD k = if k = b then false else (s.reg8 q).getLsbD k) ∧
      (∀ k : Fin 8, vs.getLsbD k = if k = b then true else (s.reg8 q).getLsbD k) ∧
      LoadsReg8 s (exec (.resBR b q) s) q vr 8 ∧
      LoadsReg8 s (exec (.setBR b q) s) q vs 8) ∧
  (∀ (s : State) (b : Fin 8) (m : PlaceForm) (x : IdxReg) (d : Byte) (q : Reg8), MemCanonical s →
    let cleared (v r : Byte) : Prop := ∀ k : Fin 8, r.getLsbD k = if k = b then false else v.getLsbD k
    let made (v r : Byte) : Prop := ∀ k : Fin 8, r.getLsbD k = if k = b then true else v.getLsbD k
    let a := addOffset (s.xy x) d
    let copies (o : Answer) (r : Byte) : Prop := ∃ t, o = .next t ∧
      t = { s with a := t.a, b := t.b, c := t.c, d := t.d, e := t.e, h := t.h, l := t.l, mem := t.mem,
                   budget := s.budget + 23 } ∧
      (∀ p : Reg8, t.reg8 p = if p = q then r else s.reg8 p) ∧ StoresByte s t a r
    (∃ r, cleared (s.readByte (m.address s)) r ∧ StoresOnlyByte s (exec (m.res b) s) (m.address s) r (m.cost 15 23)) ∧
    (∃ r, made (s.readByte (m.address s)) r ∧ StoresOnlyByte s (exec (m.set b) s) (m.address s) r (m.cost 15 23)) ∧
    (∃ r, cleared (s.readByte a) r ∧ copies (exec (x.pick (.resBMemIxdR b d q) (.resBMemIydR b d q)) s) r) ∧
    (∃ r, made (s.readByte a) r ∧ copies (exec (x.pick (.setBMemIxdR b d q) (.setBMemIydR b d q)) s) r))

/-- RLD and RRD: the three nibbles move, the flags come from the new A, C is unchanged (45_rotate_bit.md R266, R267; 40_alu.md R119,
D30). -/
def Obligations.NibbleRotates : Prop :=
  ∀ (s : State) (m : Byte), MemCanonical s → m = s.readByte (wordOf s.h s.l) →
    let after (o : Answer) (a' m' : Byte) : Prop := ∃ (t : State) (g : Flags), o = .next t ∧
      t = { s with a := a', f := g.toByte, mem := t.mem, budget := s.budget + 18 } ∧
      StoresByte s t (wordOf s.h s.l) m' ∧
      Mirrors g a' ∧ g.h = false ∧ g.pv = evenParity a' ∧ g.n = false ∧ g.c = s.f.getLsbD 0
    after (exec .rld s) (s.a.extractLsb' 4 4 ++ m.extractLsb' 4 4) (m.extractLsb' 0 4 ++ s.a.extractLsb' 0 4) ∧
    after (exec .rrd s) (s.a.extractLsb' 4 4 ++ m.extractLsb' 0 4) (s.a.extractLsb' 0 4 ++ m.extractLsb' 4 4)

/-! ## Control transfer -/

/-- The jumps. JP nn, JP cc,nn, JP (HL), JP (IX), JP (IY): PC only, and only where the condition holds. JR e, JR cc,e, DJNZ e: the signed
offset from the address after the instruction, modulo 65536; DJNZ decrements B and writes no flag; the cost of the path taken
(46_control.md R270 to R276, R284; 10_state.md R31). -/
def Obligations.Jumps : Prop :=
  (∀ (s : State) (cc : Cond) (nn : Word),
    exec (.jpNn nn) s = .next { s with pc := nn, budget := s.budget + 10 } ∧
    exec (.jpCcNn cc nn) s = .next { s with pc := if condHolds s.f cc = true then nn else s.pc, budget := s.budget + 10 } ∧
    exec .jpHl s = .next { s with pc := wordOf s.h s.l, budget := s.budget + 4 } ∧
    exec .jpIx s = .next { s with pc := s.ix, budget := s.budget + 8 } ∧
    exec .jpIy s = .next { s with pc := s.iy, budget := s.budget + 8 }) ∧
  (∀ (s : State) (cc : Cond) (e : Byte) (target : Word), (target.toNat : Int) = ((s.pc.toNat : Int) + e.toInt) % 65536 →
    exec (.jrE e) s = .next { s with pc := target, budget := s.budget + 12 } ∧
    exec (.jrCcE cc e) s =
      (if condHolds s.f cc = true then .next { s with pc := target, budget := s.budget + 12 }
       else .next { s with budget := s.budget + 7 }) ∧
    exec (.djnzE e) s =
      (if s.b = 1 then .next { s with b := 0, budget := s.budget + 8 }
       else .next { s with b := s.b - 1, pc := target, budget := s.budget + 13 }))

/-- CALL nn, CALL cc,nn and RST p push PC, the address after the instruction, and go to the target; RET, RET cc, RETN and RETI pop PC;
RETN copies IFF2 to IFF1 (46_control.md R277 to R284; RETI leaves the flip-flops, D16, log 7). -/
def Obligations.CallsAndReturns : Prop :=
  (∀ (s : State) (cc : Cond) (nn : Word) (p : Byte), MemCanonical s →
    PushesAndGoes s (exec (.callNn nn) s) s.pc nn 17 ∧
    (condHolds s.f cc = true → PushesAndGoes s (exec (.callCcNn cc nn) s) s.pc nn 17) ∧
    (condHolds s.f cc = false → exec (.callCcNn cc nn) s = .next { s with budget := s.budget + 10 }) ∧
    PushesAndGoes s (exec (.rstP p) s) s.pc (p.setWidth 16) 11) ∧
  (∀ (s : State) (cc : Cond),
    exec .ret s = .next { s with pc := s.readWord s.sp, sp := s.sp + 2, budget := s.budget + 10 } ∧
    exec (.retCc cc) s =
      (if condHolds s.f cc = true then .next { s with pc := s.readWord s.sp, sp := s.sp + 2, budget := s.budget + 11 }
       else .next { s with budget := s.budget + 5 }) ∧
    exec .retn s = .next { s with iff1 := s.iff2, pc := s.readWord s.sp, sp := s.sp + 2, budget := s.budget + 14 } ∧
    exec .reti s = .next { s with pc := s.readWord s.sp, sp := s.sp + 2, budget := s.budget + 14 })

/-! ## Block instructions -/

/-- LDI and LDD: the byte at HL goes to DE, both move by one, BC goes down; PV = (BC ≠ 0), H and N clear, the other flags unchanged.
CPI and CPD: HL moves by one, BC goes down, the flags are those of A less the byte at HL, but PV = (BC ≠ 0) and C unchanged
(47_block.md R300 to R303, D27). -/
def Obligations.BlockTransferAndCompareStep : Prop :=
  (∀ (s : State) (i : Instr) (dir : BlockDir) (bc : Word), MemCanonical s →
    (i = .ldi ∧ dir = .up ∨ i = .ldd ∧ dir = .down) → bc = wordOf s.b s.c - 1 →
    ∃ t, exec i s = .next t ∧
      t = { s with b := hiByte bc, c := loByte bc, d := t.d, e := t.e, h := t.h, l := t.l,
                   f := Flags.toByte { s.flags with pv := decide (bc ≠ 0), h := false, n := false },
                   mem := t.mem, budget := s.budget + 16 } ∧
      wordOf t.d t.e = dir.ahead (wordOf s.d s.e) 1 ∧ wordOf t.h t.l = dir.ahead (wordOf s.h s.l) 1 ∧
      StoresByte s t (wordOf s.d s.e) (s.readByte (wordOf s.h s.l))) ∧
  (∀ (s : State) (i : Instr) (dir : BlockDir) (bc : Word) (r : Byte),
    (i = .cpi ∧ dir = .up ∨ i = .cpd ∧ dir = .down) → bc = wordOf s.b s.c - 1 →
    r = s.a - s.readByte (wordOf s.h s.l) →
    ∃ (t : State) (g : Flags), exec i s = .next t ∧
      t = { s with b := hiByte bc, c := loByte bc, h := t.h, l := t.l, f := g.toByte, budget := s.budget + 16 } ∧
      wordOf t.h t.l = dir.ahead (wordOf s.h s.l) 1 ∧
      Mirrors g r ∧ g.h = decide (s.a.toNat % 16 < (s.readByte (wordOf s.h s.l)).toNat % 16) ∧
      g.pv = decide (bc ≠ 0) ∧ g.n = true ∧ g.c = s.f.getLsbD 0)

/-- INI, IND, OUTI and OUTD: one port access (the port before the decrement of B for input, after it for output, D29), HL moved by one,
Z = (B = 0), N set, C the fixed `IO_BLOCK_CARRY`, the other flags unchanged (47_block.md R304 to R307; D6, D28, log 5). The byte read is the
oracle's, from the history before the read (D20, log 6), and the event's tag, PC less 2, is the model's reading (log 14). -/
def Obligations.BlockPortStep : Prop :=
  ∀ (s : State) (dir : BlockDir) (v m : Byte) (g : Flags), MemCanonical s →
    v = readsFromPort s (wordOf s.b s.c) → m = s.readByte (wordOf s.h s.l) →
    g = { s.flags with z := decide (s.b - 1 = 0), n := true, c := Config.ioBlockCarry } →
    (∃ t, exec (match dir with | .up => .ini | .down => .ind) s = .next t ∧
      t = { s with b := s.b - 1, h := t.h, l := t.l, f := g.toByte, mem := t.mem,
                   events := s.events ++ [.input (wordOf s.b s.c) v (s.pc - 2)], budget := s.budget + 16 } ∧
      wordOf t.h t.l = dir.ahead (wordOf s.h s.l) 1 ∧ StoresByte s t (wordOf s.h s.l) v) ∧
    (∃ t, exec (match dir with | .up => .outi | .down => .outd) s = .next t ∧
      t = { s with b := s.b - 1, h := t.h, l := t.l, f := g.toByte,
                   events := s.events ++ [.output (wordOf (s.b - 1) s.c) m (s.pc - 2)], budget := s.budget + 16 } ∧
      wordOf t.h t.l = dir.ahead (wordOf s.h s.l) 1)

/-- The eight repeat forms repeat their single steps: 16 cycles for the last iteration, 21 for another, and the checkpoint; INIR, INDR,
OTIR and OTDR leave PV = (B ≠ 0) at their end, the checkpoint included (47_block.md R308 to R316; D3, D7, D8, D28, log 7, log 8). -/
def Obligations.RepeatForms : Prop :=
  ∀ s : State,
    RepeatsSingleStep s .ldir .ldi (fun t => wordOf t.b t.c == 0) id ∧
    RepeatsSingleStep s .lddr .ldd (fun t => wordOf t.b t.c == 0) id ∧
    RepeatsSingleStep s .cpir .cpi (fun t => wordOf t.b t.c == 0 || t.f.getLsbD 6) id ∧
    RepeatsSingleStep s .cpdr .cpd (fun t => wordOf t.b t.c == 0 || t.f.getLsbD 6) id ∧
    let last (t : State) : State := { t with f := Flags.toByte { t.flags with pv := decide (t.b ≠ 0) } }
    RepeatsSingleStep s .inir .ini (fun t => t.b == 0) last ∧
    RepeatsSingleStep s .indr .ind (fun t => t.b == 0) last ∧
    RepeatsSingleStep s .otir .outi (fun t => t.b == 0) last ∧
    RepeatsSingleStep s .otdr .outd (fun t => t.b == 0) last

/-- Each repeat form answers a next state: at its end, with PC past it, or at the checkpoint, with PC on its first byte and the budget not
negative (47_block.md R308; 20_memory.md R65). The end at the checkpoint, with PC on the first byte, is the spec's own choice D8. -/
def Obligations.RepeatFormsEnd : Prop :=
  ∀ (s : State) (i : Instr) (done : State → Bool),
    ((i = .ldir ∨ i = .lddr) ∧ done = (fun t => wordOf t.b t.c == 0) ∨
     (i = .cpir ∨ i = .cpdr) ∧ done = (fun t => wordOf t.b t.c == 0 || t.f.getLsbD 6) ∨
     (i = .inir ∨ i = .indr ∨ i = .otir ∨ i = .otdr) ∧ done = (fun t => t.b == 0)) →
    ∃ t, exec i s = .next t ∧ s.budget < t.budget ∧
      (done t = true ∧ t.pc = s.pc ∨ done t = false ∧ t.pc = s.pc - 2 ∧ 0 ≤ t.budget)

/-- LDIR and LDDR whole, with no checkpoint in the way: `n` bytes are copied one after the other (n = 65536 where BC is 0), each iteration
reading what the ones before it left, HL and DE move by n, BC is 0, PV, H and N are clear, R counts n, and the cost is 21·(n − 1) + 16. Blocks
that do not overlap are copied unchanged; with DE one ahead of HL the first byte is replicated, up to a byte of a read-only bank (47_block.md R309, R310; D3, D7). -/
def Obligations.LdirCopiesBlock : Prop :=
  ∀ (s : State) (i : Instr) (dir : BlockDir) (n : Nat) (src dst : Word), MemCanonical s →
    (i = .ldir ∧ dir = .up ∨ i = .lddr ∧ dir = .down) →
    n = (if wordOf s.b s.c = 0 then 65536 else (wordOf s.b s.c).toNat) →
    s.budget + 21 * ((n : Int) - 1) < 0 → src = wordOf s.h s.l → dst = wordOf s.d s.e →
    ∃ t, exec i s = .next t ∧
      t = { s with b := 0, c := 0, d := t.d, e := t.e, h := t.h, l := t.l,
                   f := Flags.toByte { s.flags with pv := false, h := false, n := false }, r := bumpR s.r n,
                   mem := t.mem, budget := s.budget + (21 * ((n : Int) - 1) + 16) } ∧
      wordOf t.h t.l = dir.ahead src n ∧ wordOf t.d t.e = dir.ahead dst n ∧
      (∀ x : Word, t.readByte x = s.copied dir src dst n x) ∧
      ((∀ j k, j < n → k < n → dir.ahead src j ≠ dir.ahead dst k) →
        (∀ k < n, t.readByte (dir.ahead dst k) =
          if writable (dir.ahead dst k) = true then s.readByte (dir.ahead src k) else s.readByte (dir.ahead dst k)) ∧
        (∀ x : Word, (∀ k < n, x ≠ dir.ahead dst k) → t.readByte x = s.readByte x)) ∧
      (dst = dir.ahead src 1 → ∀ k < n,
        t.readByte (dir.ahead dst k) = s.readByte src ∨ ∃ j ≤ k, writable (dir.ahead dst j) = false)

/-- CPIR and CPDR stop at the first match: with the first byte equal to A at offset k, before the counter and the frame run out, HL ends
just past it, BC is k + 1 less, Z and N are set, PV tells whether BC is not 0, C is unchanged, and the cost is 21·k + 16
(47_block.md R311, R312; D3, D7, D27). -/
def Obligations.CpirFindsFirstMatch : Prop :=
  ∀ (s : State) (i : Instr) (dir : BlockDir) (n k : Nat) (bc : Word),
    (i = .cpir ∧ dir = .up ∨ i = .cpdr ∧ dir = .down) →
    n = (if wordOf s.b s.c = 0 then 65536 else (wordOf s.b s.c).toNat) → k < n →
    s.readByte (dir.ahead (wordOf s.h s.l) k) = s.a →
    (∀ j < k, s.readByte (dir.ahead (wordOf s.h s.l) j) ≠ s.a) →
    s.budget + 21 * (k : Int) < 0 → bc = wordOf s.b s.c - BitVec.ofNat 16 (k + 1) →
    ∃ t, exec i s = .next t ∧
      t = { s with b := hiByte bc, c := loByte bc, h := t.h, l := t.l,
                   f := Flags.toByte { s := false, z := true, f5 := false, h := false, f3 := false, pv := decide (bc ≠ 0),
                                       n := true, c := s.f.getLsbD 0 },
                   r := bumpR s.r (k + 1), budget := s.budget + (21 * (k : Int) + 16) } ∧
      wordOf t.h t.l = dir.ahead (wordOf s.h s.l) (k + 1)

/-! ## Port I/O and CPU control -/

/-- IN A,(n), IN r,(C) and IN (C): the byte read, its event, and for the last two the flags, C unchanged. OUT (n),A, OUT (C),r and
OUT (C),0: one event and nothing else (48_io_cpu_control.md R325 to R330; 20_memory.md R61 to R63; D20, log 6, log 14). The port address (D21), the flags of IN (D39) and the
value of OUT (C),0 (D38) are the spec's own choices (log 21). -/
def Obligations.PortInputAndOutput : Prop :=
  (∀ (s : State) (n : Byte) (q : Reg8) (v : Byte) (g : Flags), v = readsFromPort s (wordOf s.b s.c) →
    Mirrors g v → g.h = false → g.pv = evenParity v → g.n = false → g.c = s.f.getLsbD 0 →
    exec (.inAPortN n) s =
      .next { s with a := readsFromPort s (wordOf s.a n), budget := s.budget + 11,
                     events := s.events ++ [.input (wordOf s.a n) (readsFromPort s (wordOf s.a n)) (s.pc - 2)] } ∧
    (∃ t, exec (.inRPortC q) s = .next t ∧
      t = { s with a := t.a, b := t.b, c := t.c, d := t.d, e := t.e, h := t.h, l := t.l, f := g.toByte,
                   events := s.events ++ [.input (wordOf s.b s.c) v (s.pc - 2)], budget := s.budget + 12 } ∧
      ∀ p : Reg8, t.reg8 p = if p = q then v else s.reg8 p) ∧
    exec .inPortC s =
      .next { s with f := g.toByte, budget := s.budget + 12, events := s.events ++ [.input (wordOf s.b s.c) v (s.pc - 2)] }) ∧
  (∀ (s : State) (n : Byte) (q : Reg8),
    exec (.outPortNA n) s =
      .next { s with events := s.events ++ [.output (wordOf s.a n) s.a (s.pc - 2)], budget := s.budget + 11 } ∧
    exec (.outPortCR q) s =
      .next { s with events := s.events ++ [.output (wordOf s.b s.c) (s.reg8 q) (s.pc - 2)], budget := s.budget + 12 } ∧
    exec .outPortCZero s =
      .next { s with events := s.events ++ [.output (wordOf s.b s.c) 0 (s.pc - 2)], budget := s.budget + 12 })

/-- NOP, an ED NOP and a lone prefix only take their cycles; DI, EI and IM write the flip-flops and the mode at once
(48_io_cpu_control.md R331, R333 to R337; D9, D14). -/
def Obligations.CpuControl : Prop :=
  ∀ (s : State) (op : Byte),
    exec .nop s = .next { s with budget := s.budget + 4 } ∧
    exec (.edNop op) s = .next { s with budget := s.budget + 8 } ∧
    exec .lonePrefixDd s = .next { s with budget := s.budget + 4 } ∧
    exec .lonePrefixFd s = .next { s with budget := s.budget + 4 } ∧
    exec .di s = .next { s with iff1 := false, iff2 := false, budget := s.budget + 4 } ∧
    exec .ei s = .next { s with iff1 := true, iff2 := true, budget := s.budget + 4 } ∧
    exec .im0 s = .next { s with im := .mode0, budget := s.budget + 8 } ∧
    exec .im1 s = .next { s with im := .mode1, budget := s.budget + 8 } ∧
    exec .im2 s = .next { s with im := .mode2, budget := s.budget + 8 }

/-- HALT waits in steps of 4 cycles to the first budget that is not negative, R counting the steps, the fetch included, and leaves the
core halted; a halted core that accepts no interrupt fetches nothing and waits the same way, every step, changing nothing else
(48_io_cpu_control.md R332, 60_exceptions.md R356, R357, R370; D13, D32). -/
def Obligations.HaltWaits : Prop :=
  (∀ s : State, s.budget < 0 →
    ∃ h : Nat, 1 ≤ h ∧ 0 ≤ s.budget + 4 * (h : Int) ∧ s.budget + 4 * (h : Int) < 4 ∧
      exec .halt s = .next { s with halted := true, r := bumpR s.r (h - 1), budget := s.budget + 4 * (h : Int) }) ∧
  (∀ (s : State) (b : Int), s.halted = true → s.iff1 = false → BudgetInFrame s →
    b = (if 0 ≤ s.budget then s.budget - Config.frameCycles else s.budget) →
    ∃ h : Nat, 0 ≤ b + 4 * (h : Int) ∧ b + 4 * (h : Int) < 4 ∧
      step s = .next { s with r := bumpR s.r h, budget := b + 4 * (h : Int) })

/-! ## The interrupt -/

/-- The interrupt opportunity at the start of a step, for any setting of the parameters. Accepted, with the budget not negative and IFF1
set: the core wakes, PC is pushed, both flip-flops are cleared, PC goes to 0x0038, or in mode 2 to the word at (I, VECTOR_BYTE) read after
the push, and the budget drops by the frame less 13 or 19. Lost, with IFF1 clear: only the budget drops, by the frame. With the budget
negative there is none. Nothing else changes. The step takes it with VECTOR_BYTE at its default 0xFF (60_exceptions.md R350, R352 to
R354, R361; D5, D13, D15, D44, D45, log 7). -/
def Obligations.InterruptOpportunity : Prop :=
  (∀ (P : Params) (s o : State), MemCanonical s → 0 ≤ s.budget → s.iff1 = true → o = s.opportunity P →
    o = { s with halted := false, iff1 := false, iff2 := false, sp := s.sp - 2, pc := o.pc, mem := o.mem,
                 budget := s.budget - ((Config.frameCycles : Int) - if s.im = .mode2 then 19 else 13) } ∧
    o.pc = (if s.im = .mode2 then o.readWord (wordOf s.i P.vectorByte) else 0x0038) ∧
    StoresWord s o (s.sp - 2) s.pc) ∧
  (∀ (P : Params) (s : State),
    (0 ≤ s.budget → s.iff1 = false → s.opportunity P = { s with budget := s.budget - Config.frameCycles }) ∧
    (s.budget < 0 → s.opportunity P = s)) ∧
  (∀ s : State, Params.default.vectorByte = 0xFF ∧
    step s = (if (s.opportunity Params.default).halted = true then .next (s.opportunity Params.default).haltedWait
      else exec (s.opportunity Params.default).decodeAtPc.instr (s.opportunity Params.default).fetchNext))

/-! ## The settings of the parameters -/

/-- The machine takes the parameters of 00_scope.md R6 as an argument, and exec and step are its default setting (D3, D5, D7, D11, D16, D36;
log 7). The CycleTable changes the budget alone, and gives every cost but those of HALT and the repeat forms (R96; 60_exceptions.md R351);
`BLOCK_R_MODE` changes R alone (47_block.md R308); ADD HL,ss and ADD XY,pp under `ADD16_SZPV` (40_alu.md R114), RETI under
`RETI_RESTORES_IFF1` (46_control.md R283), and the indexed copies under `IXCB_REG_COPY` (45_rotate_bit.md R261). -/
def Obligations.ParameterSettings : Prop :=
  ∀ (P : Params) (s : State), MemCanonical s →
    (∀ i, execWith Params.default i s = exec i s) ∧ stepWith Params.default s = step s ∧
    stepWith P s = (if (s.opportunity P).halted = true then .next (s.opportunity P).haltedWait
      else execWith P (s.opportunity P).decodeAtPc.instr (s.opportunity P).fetchNext) ∧
    (∀ i, ∃ t, execWith P i s = .next t ∧
      (hasTableCost i = true → ∃ taken, t.budget = s.budget + (P.cycles i).cost taken) ∧
      (∀ table, ∃ u, execWith { P with cycles := table } i s = .next u ∧ u = { t with budget := u.budget }) ∧
      (∀ mode, ∃ u, execWith { P with blockRMode := mode } i s = .next u ∧ u = { t with r := u.r })) ∧
    (∀ i ∈ [Instr.ldir, .lddr, .cpir, .cpdr, .inir, .indr, .otir, .otdr],
      ∃ t, ∃ n ≥ 1, execWith P i s = .next t ∧ t.r = bumpR s.r (blockRefresh P.blockRMode n) ∧
        (t.pc = s.pc ∧ t.budget = s.budget + 21 * ((n : Int) - 1) + 16 ∨
         t.pc = s.pc - 2 ∧ t.budget = s.budget + 21 * (n : Int))) ∧
    (let added (a v r : Word) (g : Flags) : Prop := r = a + v ∧ g = { s.flags with
       h := decide (0xFFF < a.toNat % 4096 + v.toNat % 4096), n := false, c := decide (0xFFFF < a.toNat + v.toNat)
       f5 := r.getLsbD 13, f3 := r.getLsbD 11
       s := if P.add16Szpv = true then r.getLsbD 15 else s.flags.s
       z := if P.add16Szpv = true then decide (r = 0) else s.flags.z
       pv := if P.add16Szpv = true then decide (a.getLsbD 15 = v.getLsbD 15 ∧ r.getLsbD 15 ≠ a.getLsbD 15) else s.flags.pv }
     (∀ ss, ∃ r g, added (wordOf s.h s.l) (s.pair ss) r g ∧ execWith P (.addHlSs ss) s =
       .next { s with h := hiByte r, l := loByte r, f := g.toByte, budget := s.budget + (P.cycles (.addHlSs ss)).cost false }) ∧
     (∀ pp, ∃ r g, added s.ix (s.pairX .ix pp) r g ∧ execWith P (.addIxPp pp) s =
       .next { s with ix := r, f := g.toByte, budget := s.budget + (P.cycles (.addIxPp pp)).cost false }) ∧
     (∀ pp, ∃ r g, added s.iy (s.pairX .iy pp) r g ∧ execWith P (.addIyPp pp) s =
       .next { s with iy := r, f := g.toByte, budget := s.budget + (P.cycles (.addIyPp pp)).cost false })) ∧
    execWith P .reti s = .next { s with
      iff1 := if P.retiRestoresIff1 = true then s.iff2 else s.iff1, pc := s.readWord s.sp, sp := s.sp + 2
      budget := s.budget + (P.cycles .reti).cost false } ∧
    (∀ (x : IdxReg) (d : Byte) (q : Reg8) (k : RotOp) (b : Fin 8) (i j : Instr) (r : Byte),
      (i = rotMemXydReg x d q k ∧ j = rotMemXyd x d k ∧
         r = (rotTable (s.readByte (addOffset (s.xy x) d)) (s.f.getLsbD 0) k).1 ∨
       i = x.pick (.resBMemIxdR b d q) (.resBMemIydR b d q) ∧ j = x.pick (.resBMemIxd b d) (.resBMemIyd b d) ∧
         (∀ m : Fin 8, r.getLsbD m = if m = b then false else (s.readByte (addOffset (s.xy x) d)).getLsbD m) ∨
       i = x.pick (.setBMemIxdR b d q) (.setBMemIydR b d q) ∧ j = x.pick (.setBMemIxd b d) (.setBMemIyd b d) ∧
         (∀ m : Fin 8, r.getLsbD m = if m = b then true else (s.readByte (addOffset (s.xy x) d)).getLsbD m)) →
      ∃ t u, execWith P i s = .next t ∧ execWith P j s = .next u ∧
        t = { u with a := t.a, b := t.b, c := t.c, d := t.d, e := t.e, h := t.h, l := t.l, budget := t.budget } ∧
        ∀ p : Reg8, t.reg8 p = if p = q ∧ P.ixcbRegCopy = true then r else s.reg8 p)

end SliceObligations
end

