-- ==== Sys2Proof/Laws/Decode.lean ====
section
/-! SUPPORT. The fields of an operation byte and the tables they index (30_encoding.md R76 to R82). -/

namespace Sys2Proof

/-! ## The fields x, y, z, p, q of a byte made from them -/

@[simp] theorem opX_opByte (x : Fin 4) (y z : Fin 8) : opX (opByte x y z) = x := by revert x y z; decide
@[simp] theorem opY_opByte (x : Fin 4) (y z : Fin 8) : opY (opByte x y z) = y := by revert x y z; decide
@[simp] theorem opZ_opByte (x : Fin 4) (y z : Fin 8) : opZ (opByte x y z) = z := by revert x y z; decide

@[simp] theorem opX_opByteP (x p : Fin 4) (q : Bool) (z : Fin 8) : opX (opByteP x p q z) = x := by revert x p q z; decide
@[simp] theorem opP_opByteP (x p : Fin 4) (q : Bool) (z : Fin 8) : opP (opByteP x p q z) = p := by revert x p q z; decide
@[simp] theorem opQ_opByteP (x p : Fin 4) (q : Bool) (z : Fin 8) : opQ (opByteP x p q z) = q := by revert x p q z; decide
@[simp] theorem opZ_opByteP (x p : Fin 4) (q : Bool) (z : Fin 8) : opZ (opByteP x p q z) = z := by revert x p q z; decide

/-- The field y of a byte made from p and q. -/
theorem opY_opByteP (x p : Fin 4) (q : Bool) (z : Fin 8) : opY (opByteP x p q z) = Fin.ofNat 8 (2 * p.val + q.toNat) := by
  revert x p q z; decide

/-- A byte is made from its fields. -/
theorem opByte_fields (op : Byte) : opByte (opX op) (opY op) (opZ op) = op := by revert op; decide

theorem opByteP_fields (op : Byte) : opByteP (opX op) (opP op) (opQ op) (opZ op) = op := by revert op; decide

/-! ## The tables -/

@[simp] theorem reg8OfField_field (r : Reg8) : reg8OfField r.field = some r := by cases r <;> rfl
@[simp] theorem regXOfField_field (r : RegX) : regXOfField r.field = some r := by cases r <;> rfl
@[simp] theorem pairOfField_field (p : Pair) : pairOfField p.field = p := by cases p <;> rfl
@[simp] theorem pairQOfField_field (p : PairQ) : pairQOfField p.field = p := by cases p <;> rfl
@[simp] theorem pairXOfField_field (p : PairX) : pairXOfField p.field = p := by cases p <;> rfl
@[simp] theorem condOfField_field (cc : Cond) : condOfField cc.field = cc := by cases cc <;> rfl

/-- Field value 6 is the memory operand (R77). -/
@[simp] theorem reg8OfField_six : reg8OfField 6 = none := rfl
@[simp] theorem regXOfField_six : regXOfField 6 = none := rfl

/-- The field that a register's value came from. -/
theorem Reg8.field_of_reg8OfField {y : Fin 8} {r : Reg8} (h : reg8OfField y = some r) : r.field = y := by
  revert y; revert r; intro r y; revert y; cases r <;> decide

@[simp] theorem pairOfField_surj (p : Fin 4) : (pairOfField p).field = p := by revert p; decide
@[simp] theorem pairQOfField_surj (p : Fin 4) : (pairQOfField p).field = p := by revert p; decide
@[simp] theorem pairXOfField_surj (p : Fin 4) : (pairXOfField p).field = p := by revert p; decide
@[simp] theorem condOfField_surj (y : Fin 8) : (condOfField y).field = y := by revert y; decide

/-! ## The contexts -/

@[simp] theorem IdxReg.pick_ix {α : Type} (p q : α) : IdxReg.ix.pick p q = p := rfl
@[simp] theorem IdxReg.pick_iy {α : Type} (p q : α) : IdxReg.iy.pick p q = q := rfl

end Sys2Proof
end

