-- ==== Sys2Proof/Laws/Flags.lean ====
section
/-! SUPPORT. The flag byte and the names of its bits (10_state.md R27, R28), and the byte and word views. -/

namespace Sys2Proof.Machine

/-- The names of the bits of a packed flag byte. -/
@[simp] theorem Flags.ofByte_toByte (g : Flags) : Flags.ofByte g.toByte = g := by
  obtain ⟨s, z, f5, h, f3, pv, n, c⟩ := g
  cases s <;> cases z <;> cases f5 <;> cases h <;> cases f3 <;> cases pv <;> cases n <;> cases c <;> rfl

/-- Packing the names of a flag byte gives it back. -/
@[simp] theorem Flags.toByte_ofByte (f : Byte) : (Flags.ofByte f).toByte = f := by
  revert f
  decide

@[simp] theorem State.flags_setFlags (s : State) (g : Flags) : (s.setFlags g).flags = g := Flags.ofByte_toByte g

@[simp] theorem hiByte_wordOf (hi lo : Byte) : hiByte (wordOf hi lo) = hi := by
  apply BitVec.eq_of_toNat_eq
  have h1 := hi.isLt
  have h2 := lo.isLt
  simp only [hiByte, wordOf, BitVec.extractLsb'_toNat, BitVec.toNat_append, ← Nat.shiftLeft_add_eq_or_of_lt h2]
  omega

@[simp] theorem loByte_wordOf (hi lo : Byte) : loByte (wordOf hi lo) = lo := by
  apply BitVec.eq_of_toNat_eq
  have h1 := hi.isLt
  have h2 := lo.isLt
  simp only [loByte, wordOf, BitVec.extractLsb'_toNat, BitVec.toNat_append, ← Nat.shiftLeft_add_eq_or_of_lt h2]
  omega

/-- The value of a word made of two bytes. -/
theorem wordOf_toNat (hi lo : Byte) : (wordOf hi lo).toNat = 256 * hi.toNat + lo.toNat := by
  have h2 := lo.isLt
  simp only [wordOf, BitVec.toNat_append, ← Nat.shiftLeft_add_eq_or_of_lt h2]
  omega

theorem hiByte_toNat (w : Word) : (hiByte w).toNat = w.toNat / 256 := by
  have h := w.isLt
  simp only [hiByte, BitVec.extractLsb'_toNat]
  omega

theorem loByte_toNat (w : Word) : (loByte w).toNat = w.toNat % 256 := by
  simp only [loByte, BitVec.extractLsb'_toNat]
  omega

@[simp] theorem wordOf_hiByte_loByte (w : Word) : wordOf (hiByte w) (loByte w) = w := by
  apply BitVec.eq_of_toNat_eq
  rw [wordOf_toNat, hiByte_toNat, loByte_toNat]
  omega

@[simp] theorem State.hl_setHl (s : State) (v : Word) : (s.setHl v).hl = v := wordOf_hiByte_loByte v
@[simp] theorem State.de_setDe (s : State) (v : Word) : (s.setDe v).de = v := wordOf_hiByte_loByte v
@[simp] theorem State.bc_setBc (s : State) (v : Word) : (s.setBc v).bc = v := wordOf_hiByte_loByte v

/-- A register reads as it was written. -/
@[simp] theorem State.reg8_setReg8 (s : State) (r : Reg8) (v : Byte) : (s.setReg8 r v).reg8 r = v := by cases r <;> rfl

/-- A write leaves the other registers alone. -/
theorem State.reg8_setReg8_of_ne (s : State) {r q : Reg8} (h : q ≠ r) (v : Byte) : (s.setReg8 r v).reg8 q = s.reg8 q := by
  cases r <;> cases q <;> first | rfl | exact absurd rfl h

@[simp] theorem State.xy_setXy (s : State) (x : IdxReg) (v : Word) : (s.setXy x v).xy x = v := by cases x <;> rfl

/-- "Writing a half changes only that byte" (10_state.md R24). -/
@[simp] theorem State.xyh_setXyh (s : State) (x : IdxReg) (v : Byte) : (s.setXyh x v).xyh x = v := by cases x <;> simp [State.setXyh, State.xyh]
@[simp] theorem State.xyl_setXyh (s : State) (x : IdxReg) (v : Byte) : (s.setXyh x v).xyl x = s.xyl x := by
  cases x <;> simp [State.setXyh, State.xyl]
@[simp] theorem State.xyl_setXyl (s : State) (x : IdxReg) (v : Byte) : (s.setXyl x v).xyl x = v := by cases x <;> simp [State.setXyl, State.xyl]
@[simp] theorem State.xyh_setXyl (s : State) (x : IdxReg) (v : Byte) : (s.setXyl x v).xyh x = s.xyh x := by
  cases x <;> simp [State.setXyl, State.xyh]

end Sys2Proof.Machine
end

