-- ==== Sys2Proof/Laws/Memory.lean ====
section
/-! SUPPORT. The memory store: a read after a write, the canonical form, and that canonical memories which read alike are
equal. -/

namespace Sys2Proof.Machine

@[simp] theorem Memory.read_nil (a : Nat) : Memory.read [] a = Memory.unlisted := rfl

theorem Memory.read_cons (k : Nat) (v : Byte) (rest : Memory) (a : Nat) :
    Memory.read ((k, v) :: rest) a = if k = a then v else Memory.read rest a := rfl

theorem Memory.wfFrom_cons {lo k : Nat} {v : Byte} {rest : Memory} :
    Memory.wfFrom lo ((k, v) :: rest) = true ↔
      lo ≤ k ∧ k < 65536 ∧ v ≠ Memory.unlisted ∧ Memory.wfFrom (k + 1) rest = true := by
  simp [Memory.wfFrom, and_assoc]

/-- Raising the bound: a list canonical above `hi` is canonical above every lower bound. -/
theorem Memory.wfFrom_mono {lo hi : Nat} (h : lo ≤ hi) : ∀ {m : Memory}, Memory.wfFrom hi m = true → Memory.wfFrom lo m = true
  | [], _ => rfl
  | (k, v) :: rest, w => by
    rw [Memory.wfFrom_cons] at w ⊢
    exact ⟨by omega, w.2⟩

/-- An address below the bound is unlisted. -/
theorem Memory.read_of_lt {lo a : Nat} (h : a < lo) : ∀ {m : Memory}, Memory.wfFrom lo m = true → m.read a = Memory.unlisted
  | [], _ => rfl
  | (k, v) :: rest, w => by
    rw [Memory.wfFrom_cons] at w
    rw [Memory.read_cons, if_neg (by omega)]
    exact Memory.read_of_lt (by omega) w.2.2.2

/-- A write leaves every other address alone. -/
theorem Memory.read_write_of_ne {a x : Nat} (h : x ≠ a) (v : Byte) : ∀ m : Memory, (m.write a v).read x = m.read x
  | [] => by
    simp only [Memory.write]
    split
    · rfl
    · rw [Memory.read_cons, if_neg (Ne.symm h)]
  | (k, w) :: rest => by
    simp only [Memory.write]
    split
    · split
      · rfl
      · rw [Memory.read_cons a, if_neg (Ne.symm h)]
    · split
      · subst_vars
        split <;> simp [Memory.read_cons, Ne.symm h]
      · simp only [Memory.read_cons, Memory.read_write_of_ne h v rest]

/-- A read of the address just written gives the value written. -/
theorem Memory.read_write_self {lo a : Nat} (v : Byte) (hlo : lo ≤ a) :
    ∀ {m : Memory}, Memory.wfFrom lo m = true → (m.write a v).read a = v
  | [], _ => by
    simp only [Memory.write]
    split
    · simp_all
    · rw [Memory.read_cons, if_pos rfl]
  | (k, w) :: rest, hw => by
    rw [Memory.wfFrom_cons] at hw
    simp only [Memory.write]
    split
    · split
      · subst_vars
        rw [Memory.read_cons, if_neg (by omega)]
        exact Memory.read_of_lt (by omega) hw.2.2.2
      · rw [Memory.read_cons, if_pos rfl]
    · split
      · subst_vars
        split
        · subst_vars
          exact Memory.read_of_lt (by omega) hw.2.2.2
        · rw [Memory.read_cons, if_pos rfl]
      · rw [Memory.read_cons, if_neg (by omega)]
        exact Memory.read_write_self v (by omega) hw.2.2.2

/-- A write keeps the canonical form above a bound. -/
theorem Memory.wfFrom_write {lo a : Nat} (v : Byte) (hlo : lo ≤ a) (ha : a < 65536) :
    ∀ {m : Memory}, Memory.wfFrom lo m = true → Memory.wfFrom lo (m.write a v) = true
  | [], _ => by
    simp only [Memory.write]
    split
    · rfl
    · exact Memory.wfFrom_cons.2 ⟨hlo, ha, ‹_›, rfl⟩
  | (k, w) :: rest, hw => by
    have hc := Memory.wfFrom_cons.1 hw
    simp only [Memory.write]
    split
    · split
      · exact hw
      · exact Memory.wfFrom_cons.2 ⟨hlo, ha, ‹_›, Memory.wfFrom_cons.2 ⟨by omega, hc.2⟩⟩
    · split
      · subst_vars
        split
        · exact Memory.wfFrom_mono (by omega) hc.2.2.2
        · exact Memory.wfFrom_cons.2 ⟨hc.1, hc.2.1, ‹_›, hc.2.2.2⟩
      · exact Memory.wfFrom_cons.2 ⟨hc.1, hc.2.1, hc.2.2.1, Memory.wfFrom_write v (by omega) ha hc.2.2.2⟩

/-- A write keeps the canonical form. -/
theorem Memory.wf_write {m : Memory} {a : Nat} (v : Byte) (ha : a < 65536) (h : m.wf = true) : (m.write a v).wf = true :=
  Memory.wfFrom_write v (Nat.zero_le a) ha h

/-- Read after write, both cases. -/
theorem Memory.read_write {m : Memory} (h : m.wf = true) (a : Nat) (v : Byte) (x : Nat) :
    (m.write a v).read x = if x = a then v else m.read x := by
  split
  · subst_vars
    exact Memory.read_write_self v (Nat.zero_le _) h
  · exact Memory.read_write_of_ne ‹_› v m

/-- The loader's writes keep the canonical form. -/
theorem Memory.wf_load : ∀ (bytes : List (Word × Byte)) {m : Memory}, m.wf = true → (m.load bytes).wf = true
  | [], _, h => h
  | (k, v) :: rest, _, h => Memory.wf_load rest (Memory.wf_write v k.isLt h)

/-- Canonical lists that read alike above a bound are equal. -/
theorem Memory.eq_of_read_eq {lo : Nat} : ∀ {m n : Memory}, Memory.wfFrom lo m = true → Memory.wfFrom lo n = true →
    (∀ a, m.read a = n.read a) → m = n
  | [], [], _, _, _ => rfl
  | [], (k, v) :: rest, _, hn, h => by
    rw [Memory.wfFrom_cons] at hn
    have := h k
    rw [Memory.read_cons, if_pos rfl] at this
    exact absurd this.symm hn.2.2.1
  | (k, v) :: rest, [], hm, _, h => by
    rw [Memory.wfFrom_cons] at hm
    have := h k
    rw [Memory.read_cons, if_pos rfl] at this
    exact absurd this hm.2.2.1
  | (k, v) :: mt, (j, w) :: nt, hm, hn, h => by
    rw [Memory.wfFrom_cons] at hm hn
    have hk := h k
    have hj := h j
    rw [Memory.read_cons, Memory.read_cons] at hk hj
    rw [if_pos rfl] at hk
    have hkj : k = j := by
      rcases Nat.lt_trichotomy k j with hlt | heq | hgt
      · rw [if_neg (by omega), Memory.read_of_lt (by omega) hn.2.2.2] at hk
        exact absurd hk hm.2.2.1
      · exact heq
      · rw [if_neg (by omega), if_pos rfl, Memory.read_of_lt (by omega) hm.2.2.2] at hj
        exact absurd hj.symm hn.2.2.1
    subst hkj
    rw [if_pos rfl] at hk
    subst hk
    have ht : mt = nt := Memory.eq_of_read_eq hm.2.2.2 hn.2.2.2 (fun a => by
      by_cases ha : k = a
      · subst ha
        rw [Memory.read_of_lt (by omega) hm.2.2.2, Memory.read_of_lt (by omega) hn.2.2.2]
      · have := h a
        rwa [Memory.read_cons, Memory.read_cons, if_neg ha, if_neg ha] at this)
    rw [ht]

end Sys2Proof.Machine
end

