-- ==== Sys2Proof/Laws/State.lean ====
section
/-! SUPPORT. What each update of the state leaves in each field. Every lemma is true by unfolding and tagged for simp, so that
no later proof unfolds an update. -/

namespace Sys2Proof.Machine

variable (s : State)

/-! ## writeByte -/

@[simp] theorem State.writeByte_a (k : Word) (v : Byte) : (s.writeByte k v).a = s.a := rfl
@[simp] theorem State.writeByte_f (k : Word) (v : Byte) : (s.writeByte k v).f = s.f := rfl
@[simp] theorem State.writeByte_b (k : Word) (v : Byte) : (s.writeByte k v).b = s.b := rfl
@[simp] theorem State.writeByte_c (k : Word) (v : Byte) : (s.writeByte k v).c = s.c := rfl
@[simp] theorem State.writeByte_d (k : Word) (v : Byte) : (s.writeByte k v).d = s.d := rfl
@[simp] theorem State.writeByte_e (k : Word) (v : Byte) : (s.writeByte k v).e = s.e := rfl
@[simp] theorem State.writeByte_h (k : Word) (v : Byte) : (s.writeByte k v).h = s.h := rfl
@[simp] theorem State.writeByte_l (k : Word) (v : Byte) : (s.writeByte k v).l = s.l := rfl
@[simp] theorem State.writeByte_altA (k : Word) (v : Byte) : (s.writeByte k v).altA = s.altA := rfl
@[simp] theorem State.writeByte_altF (k : Word) (v : Byte) : (s.writeByte k v).altF = s.altF := rfl
@[simp] theorem State.writeByte_altB (k : Word) (v : Byte) : (s.writeByte k v).altB = s.altB := rfl
@[simp] theorem State.writeByte_altC (k : Word) (v : Byte) : (s.writeByte k v).altC = s.altC := rfl
@[simp] theorem State.writeByte_altD (k : Word) (v : Byte) : (s.writeByte k v).altD = s.altD := rfl
@[simp] theorem State.writeByte_altE (k : Word) (v : Byte) : (s.writeByte k v).altE = s.altE := rfl
@[simp] theorem State.writeByte_altH (k : Word) (v : Byte) : (s.writeByte k v).altH = s.altH := rfl
@[simp] theorem State.writeByte_altL (k : Word) (v : Byte) : (s.writeByte k v).altL = s.altL := rfl
@[simp] theorem State.writeByte_ix (k : Word) (v : Byte) : (s.writeByte k v).ix = s.ix := rfl
@[simp] theorem State.writeByte_iy (k : Word) (v : Byte) : (s.writeByte k v).iy = s.iy := rfl
@[simp] theorem State.writeByte_sp (k : Word) (v : Byte) : (s.writeByte k v).sp = s.sp := rfl
@[simp] theorem State.writeByte_pc (k : Word) (v : Byte) : (s.writeByte k v).pc = s.pc := rfl
@[simp] theorem State.writeByte_i (k : Word) (v : Byte) : (s.writeByte k v).i = s.i := rfl
@[simp] theorem State.writeByte_r (k : Word) (v : Byte) : (s.writeByte k v).r = s.r := rfl
@[simp] theorem State.writeByte_iff1 (k : Word) (v : Byte) : (s.writeByte k v).iff1 = s.iff1 := rfl
@[simp] theorem State.writeByte_iff2 (k : Word) (v : Byte) : (s.writeByte k v).iff2 = s.iff2 := rfl
@[simp] theorem State.writeByte_im (k : Word) (v : Byte) : (s.writeByte k v).im = s.im := rfl
@[simp] theorem State.writeByte_budget (k : Word) (v : Byte) : (s.writeByte k v).budget = s.budget := rfl
@[simp] theorem State.writeByte_halted (k : Word) (v : Byte) : (s.writeByte k v).halted = s.halted := rfl
@[simp] theorem State.writeByte_mem (k : Word) (v : Byte) : (s.writeByte k v).mem = (if writable k then s.mem.write k.toNat v else s.mem) := rfl
@[simp] theorem State.writeByte_events (k : Word) (v : Byte) : (s.writeByte k v).events = s.events := rfl

/-! ## poke -/

@[simp] theorem State.poke_a (k : Word) (v : Byte) : (s.poke k v).a = s.a := rfl
@[simp] theorem State.poke_f (k : Word) (v : Byte) : (s.poke k v).f = s.f := rfl
@[simp] theorem State.poke_b (k : Word) (v : Byte) : (s.poke k v).b = s.b := rfl
@[simp] theorem State.poke_c (k : Word) (v : Byte) : (s.poke k v).c = s.c := rfl
@[simp] theorem State.poke_d (k : Word) (v : Byte) : (s.poke k v).d = s.d := rfl
@[simp] theorem State.poke_e (k : Word) (v : Byte) : (s.poke k v).e = s.e := rfl
@[simp] theorem State.poke_h (k : Word) (v : Byte) : (s.poke k v).h = s.h := rfl
@[simp] theorem State.poke_l (k : Word) (v : Byte) : (s.poke k v).l = s.l := rfl
@[simp] theorem State.poke_altA (k : Word) (v : Byte) : (s.poke k v).altA = s.altA := rfl
@[simp] theorem State.poke_altF (k : Word) (v : Byte) : (s.poke k v).altF = s.altF := rfl
@[simp] theorem State.poke_altB (k : Word) (v : Byte) : (s.poke k v).altB = s.altB := rfl
@[simp] theorem State.poke_altC (k : Word) (v : Byte) : (s.poke k v).altC = s.altC := rfl
@[simp] theorem State.poke_altD (k : Word) (v : Byte) : (s.poke k v).altD = s.altD := rfl
@[simp] theorem State.poke_altE (k : Word) (v : Byte) : (s.poke k v).altE = s.altE := rfl
@[simp] theorem State.poke_altH (k : Word) (v : Byte) : (s.poke k v).altH = s.altH := rfl
@[simp] theorem State.poke_altL (k : Word) (v : Byte) : (s.poke k v).altL = s.altL := rfl
@[simp] theorem State.poke_ix (k : Word) (v : Byte) : (s.poke k v).ix = s.ix := rfl
@[simp] theorem State.poke_iy (k : Word) (v : Byte) : (s.poke k v).iy = s.iy := rfl
@[simp] theorem State.poke_sp (k : Word) (v : Byte) : (s.poke k v).sp = s.sp := rfl
@[simp] theorem State.poke_pc (k : Word) (v : Byte) : (s.poke k v).pc = s.pc := rfl
@[simp] theorem State.poke_i (k : Word) (v : Byte) : (s.poke k v).i = s.i := rfl
@[simp] theorem State.poke_r (k : Word) (v : Byte) : (s.poke k v).r = s.r := rfl
@[simp] theorem State.poke_iff1 (k : Word) (v : Byte) : (s.poke k v).iff1 = s.iff1 := rfl
@[simp] theorem State.poke_iff2 (k : Word) (v : Byte) : (s.poke k v).iff2 = s.iff2 := rfl
@[simp] theorem State.poke_im (k : Word) (v : Byte) : (s.poke k v).im = s.im := rfl
@[simp] theorem State.poke_budget (k : Word) (v : Byte) : (s.poke k v).budget = s.budget := rfl
@[simp] theorem State.poke_halted (k : Word) (v : Byte) : (s.poke k v).halted = s.halted := rfl
@[simp] theorem State.poke_mem (k : Word) (v : Byte) : (s.poke k v).mem = s.mem.write k.toNat v := rfl
@[simp] theorem State.poke_events (k : Word) (v : Byte) : (s.poke k v).events = s.events := rfl

/-! ## writeWord -/

@[simp] theorem State.writeWord_a (k v : Word) : (s.writeWord k v).a = s.a := rfl
@[simp] theorem State.writeWord_f (k v : Word) : (s.writeWord k v).f = s.f := rfl
@[simp] theorem State.writeWord_b (k v : Word) : (s.writeWord k v).b = s.b := rfl
@[simp] theorem State.writeWord_c (k v : Word) : (s.writeWord k v).c = s.c := rfl
@[simp] theorem State.writeWord_d (k v : Word) : (s.writeWord k v).d = s.d := rfl
@[simp] theorem State.writeWord_e (k v : Word) : (s.writeWord k v).e = s.e := rfl
@[simp] theorem State.writeWord_h (k v : Word) : (s.writeWord k v).h = s.h := rfl
@[simp] theorem State.writeWord_l (k v : Word) : (s.writeWord k v).l = s.l := rfl
@[simp] theorem State.writeWord_altA (k v : Word) : (s.writeWord k v).altA = s.altA := rfl
@[simp] theorem State.writeWord_altF (k v : Word) : (s.writeWord k v).altF = s.altF := rfl
@[simp] theorem State.writeWord_altB (k v : Word) : (s.writeWord k v).altB = s.altB := rfl
@[simp] theorem State.writeWord_altC (k v : Word) : (s.writeWord k v).altC = s.altC := rfl
@[simp] theorem State.writeWord_altD (k v : Word) : (s.writeWord k v).altD = s.altD := rfl
@[simp] theorem State.writeWord_altE (k v : Word) : (s.writeWord k v).altE = s.altE := rfl
@[simp] theorem State.writeWord_altH (k v : Word) : (s.writeWord k v).altH = s.altH := rfl
@[simp] theorem State.writeWord_altL (k v : Word) : (s.writeWord k v).altL = s.altL := rfl
@[simp] theorem State.writeWord_ix (k v : Word) : (s.writeWord k v).ix = s.ix := rfl
@[simp] theorem State.writeWord_iy (k v : Word) : (s.writeWord k v).iy = s.iy := rfl
@[simp] theorem State.writeWord_sp (k v : Word) : (s.writeWord k v).sp = s.sp := rfl
@[simp] theorem State.writeWord_pc (k v : Word) : (s.writeWord k v).pc = s.pc := rfl
@[simp] theorem State.writeWord_i (k v : Word) : (s.writeWord k v).i = s.i := rfl
@[simp] theorem State.writeWord_r (k v : Word) : (s.writeWord k v).r = s.r := rfl
@[simp] theorem State.writeWord_iff1 (k v : Word) : (s.writeWord k v).iff1 = s.iff1 := rfl
@[simp] theorem State.writeWord_iff2 (k v : Word) : (s.writeWord k v).iff2 = s.iff2 := rfl
@[simp] theorem State.writeWord_im (k v : Word) : (s.writeWord k v).im = s.im := rfl
@[simp] theorem State.writeWord_budget (k v : Word) : (s.writeWord k v).budget = s.budget := rfl
@[simp] theorem State.writeWord_halted (k v : Word) : (s.writeWord k v).halted = s.halted := rfl
@[simp] theorem State.writeWord_mem (k v : Word) : (s.writeWord k v).mem = ((s.writeByte k (loByte v)).writeByte (k + 1) (hiByte v)).mem := rfl
@[simp] theorem State.writeWord_events (k v : Word) : (s.writeWord k v).events = s.events := rfl

/-! ## push16 -/

@[simp] theorem State.push16_a (v : Word) : (s.push16 v).a = s.a := rfl
@[simp] theorem State.push16_f (v : Word) : (s.push16 v).f = s.f := rfl
@[simp] theorem State.push16_b (v : Word) : (s.push16 v).b = s.b := rfl
@[simp] theorem State.push16_c (v : Word) : (s.push16 v).c = s.c := rfl
@[simp] theorem State.push16_d (v : Word) : (s.push16 v).d = s.d := rfl
@[simp] theorem State.push16_e (v : Word) : (s.push16 v).e = s.e := rfl
@[simp] theorem State.push16_h (v : Word) : (s.push16 v).h = s.h := rfl
@[simp] theorem State.push16_l (v : Word) : (s.push16 v).l = s.l := rfl
@[simp] theorem State.push16_altA (v : Word) : (s.push16 v).altA = s.altA := rfl
@[simp] theorem State.push16_altF (v : Word) : (s.push16 v).altF = s.altF := rfl
@[simp] theorem State.push16_altB (v : Word) : (s.push16 v).altB = s.altB := rfl
@[simp] theorem State.push16_altC (v : Word) : (s.push16 v).altC = s.altC := rfl
@[simp] theorem State.push16_altD (v : Word) : (s.push16 v).altD = s.altD := rfl
@[simp] theorem State.push16_altE (v : Word) : (s.push16 v).altE = s.altE := rfl
@[simp] theorem State.push16_altH (v : Word) : (s.push16 v).altH = s.altH := rfl
@[simp] theorem State.push16_altL (v : Word) : (s.push16 v).altL = s.altL := rfl
@[simp] theorem State.push16_ix (v : Word) : (s.push16 v).ix = s.ix := rfl
@[simp] theorem State.push16_iy (v : Word) : (s.push16 v).iy = s.iy := rfl
@[simp] theorem State.push16_sp (v : Word) : (s.push16 v).sp = s.sp - 2 := rfl
@[simp] theorem State.push16_pc (v : Word) : (s.push16 v).pc = s.pc := rfl
@[simp] theorem State.push16_i (v : Word) : (s.push16 v).i = s.i := rfl
@[simp] theorem State.push16_r (v : Word) : (s.push16 v).r = s.r := rfl
@[simp] theorem State.push16_iff1 (v : Word) : (s.push16 v).iff1 = s.iff1 := rfl
@[simp] theorem State.push16_iff2 (v : Word) : (s.push16 v).iff2 = s.iff2 := rfl
@[simp] theorem State.push16_im (v : Word) : (s.push16 v).im = s.im := rfl
@[simp] theorem State.push16_budget (v : Word) : (s.push16 v).budget = s.budget := rfl
@[simp] theorem State.push16_halted (v : Word) : (s.push16 v).halted = s.halted := rfl
@[simp] theorem State.push16_mem (v : Word) : (s.push16 v).mem = (s.writeWord (s.sp - 2) v).mem := rfl
@[simp] theorem State.push16_events (v : Word) : (s.push16 v).events = s.events := rfl

/-! ## drop16 -/

@[simp] theorem State.drop16_a : (s.drop16).a = s.a := rfl
@[simp] theorem State.drop16_f : (s.drop16).f = s.f := rfl
@[simp] theorem State.drop16_b : (s.drop16).b = s.b := rfl
@[simp] theorem State.drop16_c : (s.drop16).c = s.c := rfl
@[simp] theorem State.drop16_d : (s.drop16).d = s.d := rfl
@[simp] theorem State.drop16_e : (s.drop16).e = s.e := rfl
@[simp] theorem State.drop16_h : (s.drop16).h = s.h := rfl
@[simp] theorem State.drop16_l : (s.drop16).l = s.l := rfl
@[simp] theorem State.drop16_altA : (s.drop16).altA = s.altA := rfl
@[simp] theorem State.drop16_altF : (s.drop16).altF = s.altF := rfl
@[simp] theorem State.drop16_altB : (s.drop16).altB = s.altB := rfl
@[simp] theorem State.drop16_altC : (s.drop16).altC = s.altC := rfl
@[simp] theorem State.drop16_altD : (s.drop16).altD = s.altD := rfl
@[simp] theorem State.drop16_altE : (s.drop16).altE = s.altE := rfl
@[simp] theorem State.drop16_altH : (s.drop16).altH = s.altH := rfl
@[simp] theorem State.drop16_altL : (s.drop16).altL = s.altL := rfl
@[simp] theorem State.drop16_ix : (s.drop16).ix = s.ix := rfl
@[simp] theorem State.drop16_iy : (s.drop16).iy = s.iy := rfl
@[simp] theorem State.drop16_sp : (s.drop16).sp = s.sp + 2 := rfl
@[simp] theorem State.drop16_pc : (s.drop16).pc = s.pc := rfl
@[simp] theorem State.drop16_i : (s.drop16).i = s.i := rfl
@[simp] theorem State.drop16_r : (s.drop16).r = s.r := rfl
@[simp] theorem State.drop16_iff1 : (s.drop16).iff1 = s.iff1 := rfl
@[simp] theorem State.drop16_iff2 : (s.drop16).iff2 = s.iff2 := rfl
@[simp] theorem State.drop16_im : (s.drop16).im = s.im := rfl
@[simp] theorem State.drop16_budget : (s.drop16).budget = s.budget := rfl
@[simp] theorem State.drop16_halted : (s.drop16).halted = s.halted := rfl
@[simp] theorem State.drop16_mem : (s.drop16).mem = s.mem := rfl
@[simp] theorem State.drop16_events : (s.drop16).events = s.events := rfl

/-! ## popPc -/

@[simp] theorem State.popPc_a : (s.popPc).a = s.a := rfl
@[simp] theorem State.popPc_f : (s.popPc).f = s.f := rfl
@[simp] theorem State.popPc_b : (s.popPc).b = s.b := rfl
@[simp] theorem State.popPc_c : (s.popPc).c = s.c := rfl
@[simp] theorem State.popPc_d : (s.popPc).d = s.d := rfl
@[simp] theorem State.popPc_e : (s.popPc).e = s.e := rfl
@[simp] theorem State.popPc_h : (s.popPc).h = s.h := rfl
@[simp] theorem State.popPc_l : (s.popPc).l = s.l := rfl
@[simp] theorem State.popPc_altA : (s.popPc).altA = s.altA := rfl
@[simp] theorem State.popPc_altF : (s.popPc).altF = s.altF := rfl
@[simp] theorem State.popPc_altB : (s.popPc).altB = s.altB := rfl
@[simp] theorem State.popPc_altC : (s.popPc).altC = s.altC := rfl
@[simp] theorem State.popPc_altD : (s.popPc).altD = s.altD := rfl
@[simp] theorem State.popPc_altE : (s.popPc).altE = s.altE := rfl
@[simp] theorem State.popPc_altH : (s.popPc).altH = s.altH := rfl
@[simp] theorem State.popPc_altL : (s.popPc).altL = s.altL := rfl
@[simp] theorem State.popPc_ix : (s.popPc).ix = s.ix := rfl
@[simp] theorem State.popPc_iy : (s.popPc).iy = s.iy := rfl
@[simp] theorem State.popPc_sp : (s.popPc).sp = s.sp + 2 := rfl
@[simp] theorem State.popPc_pc : (s.popPc).pc = s.top16 := rfl
@[simp] theorem State.popPc_i : (s.popPc).i = s.i := rfl
@[simp] theorem State.popPc_r : (s.popPc).r = s.r := rfl
@[simp] theorem State.popPc_iff1 : (s.popPc).iff1 = s.iff1 := rfl
@[simp] theorem State.popPc_iff2 : (s.popPc).iff2 = s.iff2 := rfl
@[simp] theorem State.popPc_im : (s.popPc).im = s.im := rfl
@[simp] theorem State.popPc_budget : (s.popPc).budget = s.budget := rfl
@[simp] theorem State.popPc_halted : (s.popPc).halted = s.halted := rfl
@[simp] theorem State.popPc_mem : (s.popPc).mem = s.mem := rfl
@[simp] theorem State.popPc_events : (s.popPc).events = s.events := rfl

/-! ## callTo -/

@[simp] theorem State.callTo_a (w : Word) : (s.callTo w).a = s.a := rfl
@[simp] theorem State.callTo_f (w : Word) : (s.callTo w).f = s.f := rfl
@[simp] theorem State.callTo_b (w : Word) : (s.callTo w).b = s.b := rfl
@[simp] theorem State.callTo_c (w : Word) : (s.callTo w).c = s.c := rfl
@[simp] theorem State.callTo_d (w : Word) : (s.callTo w).d = s.d := rfl
@[simp] theorem State.callTo_e (w : Word) : (s.callTo w).e = s.e := rfl
@[simp] theorem State.callTo_h (w : Word) : (s.callTo w).h = s.h := rfl
@[simp] theorem State.callTo_l (w : Word) : (s.callTo w).l = s.l := rfl
@[simp] theorem State.callTo_altA (w : Word) : (s.callTo w).altA = s.altA := rfl
@[simp] theorem State.callTo_altF (w : Word) : (s.callTo w).altF = s.altF := rfl
@[simp] theorem State.callTo_altB (w : Word) : (s.callTo w).altB = s.altB := rfl
@[simp] theorem State.callTo_altC (w : Word) : (s.callTo w).altC = s.altC := rfl
@[simp] theorem State.callTo_altD (w : Word) : (s.callTo w).altD = s.altD := rfl
@[simp] theorem State.callTo_altE (w : Word) : (s.callTo w).altE = s.altE := rfl
@[simp] theorem State.callTo_altH (w : Word) : (s.callTo w).altH = s.altH := rfl
@[simp] theorem State.callTo_altL (w : Word) : (s.callTo w).altL = s.altL := rfl
@[simp] theorem State.callTo_ix (w : Word) : (s.callTo w).ix = s.ix := rfl
@[simp] theorem State.callTo_iy (w : Word) : (s.callTo w).iy = s.iy := rfl
@[simp] theorem State.callTo_sp (w : Word) : (s.callTo w).sp = s.sp - 2 := rfl
@[simp] theorem State.callTo_pc (w : Word) : (s.callTo w).pc = w := rfl
@[simp] theorem State.callTo_i (w : Word) : (s.callTo w).i = s.i := rfl
@[simp] theorem State.callTo_r (w : Word) : (s.callTo w).r = s.r := rfl
@[simp] theorem State.callTo_iff1 (w : Word) : (s.callTo w).iff1 = s.iff1 := rfl
@[simp] theorem State.callTo_iff2 (w : Word) : (s.callTo w).iff2 = s.iff2 := rfl
@[simp] theorem State.callTo_im (w : Word) : (s.callTo w).im = s.im := rfl
@[simp] theorem State.callTo_budget (w : Word) : (s.callTo w).budget = s.budget := rfl
@[simp] theorem State.callTo_halted (w : Word) : (s.callTo w).halted = s.halted := rfl
@[simp] theorem State.callTo_mem (w : Word) : (s.callTo w).mem = (s.push16 s.pc).mem := rfl
@[simp] theorem State.callTo_events (w : Word) : (s.callTo w).events = s.events := rfl

/-! ## jumpRel -/

@[simp] theorem State.jumpRel_a (v : Byte) : (s.jumpRel v).a = s.a := rfl
@[simp] theorem State.jumpRel_f (v : Byte) : (s.jumpRel v).f = s.f := rfl
@[simp] theorem State.jumpRel_b (v : Byte) : (s.jumpRel v).b = s.b := rfl
@[simp] theorem State.jumpRel_c (v : Byte) : (s.jumpRel v).c = s.c := rfl
@[simp] theorem State.jumpRel_d (v : Byte) : (s.jumpRel v).d = s.d := rfl
@[simp] theorem State.jumpRel_e (v : Byte) : (s.jumpRel v).e = s.e := rfl
@[simp] theorem State.jumpRel_h (v : Byte) : (s.jumpRel v).h = s.h := rfl
@[simp] theorem State.jumpRel_l (v : Byte) : (s.jumpRel v).l = s.l := rfl
@[simp] theorem State.jumpRel_altA (v : Byte) : (s.jumpRel v).altA = s.altA := rfl
@[simp] theorem State.jumpRel_altF (v : Byte) : (s.jumpRel v).altF = s.altF := rfl
@[simp] theorem State.jumpRel_altB (v : Byte) : (s.jumpRel v).altB = s.altB := rfl
@[simp] theorem State.jumpRel_altC (v : Byte) : (s.jumpRel v).altC = s.altC := rfl
@[simp] theorem State.jumpRel_altD (v : Byte) : (s.jumpRel v).altD = s.altD := rfl
@[simp] theorem State.jumpRel_altE (v : Byte) : (s.jumpRel v).altE = s.altE := rfl
@[simp] theorem State.jumpRel_altH (v : Byte) : (s.jumpRel v).altH = s.altH := rfl
@[simp] theorem State.jumpRel_altL (v : Byte) : (s.jumpRel v).altL = s.altL := rfl
@[simp] theorem State.jumpRel_ix (v : Byte) : (s.jumpRel v).ix = s.ix := rfl
@[simp] theorem State.jumpRel_iy (v : Byte) : (s.jumpRel v).iy = s.iy := rfl
@[simp] theorem State.jumpRel_sp (v : Byte) : (s.jumpRel v).sp = s.sp := rfl
@[simp] theorem State.jumpRel_pc (v : Byte) : (s.jumpRel v).pc = addOffset s.pc v := rfl
@[simp] theorem State.jumpRel_i (v : Byte) : (s.jumpRel v).i = s.i := rfl
@[simp] theorem State.jumpRel_r (v : Byte) : (s.jumpRel v).r = s.r := rfl
@[simp] theorem State.jumpRel_iff1 (v : Byte) : (s.jumpRel v).iff1 = s.iff1 := rfl
@[simp] theorem State.jumpRel_iff2 (v : Byte) : (s.jumpRel v).iff2 = s.iff2 := rfl
@[simp] theorem State.jumpRel_im (v : Byte) : (s.jumpRel v).im = s.im := rfl
@[simp] theorem State.jumpRel_budget (v : Byte) : (s.jumpRel v).budget = s.budget := rfl
@[simp] theorem State.jumpRel_halted (v : Byte) : (s.jumpRel v).halted = s.halted := rfl
@[simp] theorem State.jumpRel_mem (v : Byte) : (s.jumpRel v).mem = s.mem := rfl
@[simp] theorem State.jumpRel_events (v : Byte) : (s.jumpRel v).events = s.events := rfl

/-! ## recordIn -/

@[simp] theorem State.recordIn_a (k : Word) (v : Byte) : (s.recordIn k v).a = s.a := rfl
@[simp] theorem State.recordIn_f (k : Word) (v : Byte) : (s.recordIn k v).f = s.f := rfl
@[simp] theorem State.recordIn_b (k : Word) (v : Byte) : (s.recordIn k v).b = s.b := rfl
@[simp] theorem State.recordIn_c (k : Word) (v : Byte) : (s.recordIn k v).c = s.c := rfl
@[simp] theorem State.recordIn_d (k : Word) (v : Byte) : (s.recordIn k v).d = s.d := rfl
@[simp] theorem State.recordIn_e (k : Word) (v : Byte) : (s.recordIn k v).e = s.e := rfl
@[simp] theorem State.recordIn_h (k : Word) (v : Byte) : (s.recordIn k v).h = s.h := rfl
@[simp] theorem State.recordIn_l (k : Word) (v : Byte) : (s.recordIn k v).l = s.l := rfl
@[simp] theorem State.recordIn_altA (k : Word) (v : Byte) : (s.recordIn k v).altA = s.altA := rfl
@[simp] theorem State.recordIn_altF (k : Word) (v : Byte) : (s.recordIn k v).altF = s.altF := rfl
@[simp] theorem State.recordIn_altB (k : Word) (v : Byte) : (s.recordIn k v).altB = s.altB := rfl
@[simp] theorem State.recordIn_altC (k : Word) (v : Byte) : (s.recordIn k v).altC = s.altC := rfl
@[simp] theorem State.recordIn_altD (k : Word) (v : Byte) : (s.recordIn k v).altD = s.altD := rfl
@[simp] theorem State.recordIn_altE (k : Word) (v : Byte) : (s.recordIn k v).altE = s.altE := rfl
@[simp] theorem State.recordIn_altH (k : Word) (v : Byte) : (s.recordIn k v).altH = s.altH := rfl
@[simp] theorem State.recordIn_altL (k : Word) (v : Byte) : (s.recordIn k v).altL = s.altL := rfl
@[simp] theorem State.recordIn_ix (k : Word) (v : Byte) : (s.recordIn k v).ix = s.ix := rfl
@[simp] theorem State.recordIn_iy (k : Word) (v : Byte) : (s.recordIn k v).iy = s.iy := rfl
@[simp] theorem State.recordIn_sp (k : Word) (v : Byte) : (s.recordIn k v).sp = s.sp := rfl
@[simp] theorem State.recordIn_pc (k : Word) (v : Byte) : (s.recordIn k v).pc = s.pc := rfl
@[simp] theorem State.recordIn_i (k : Word) (v : Byte) : (s.recordIn k v).i = s.i := rfl
@[simp] theorem State.recordIn_r (k : Word) (v : Byte) : (s.recordIn k v).r = s.r := rfl
@[simp] theorem State.recordIn_iff1 (k : Word) (v : Byte) : (s.recordIn k v).iff1 = s.iff1 := rfl
@[simp] theorem State.recordIn_iff2 (k : Word) (v : Byte) : (s.recordIn k v).iff2 = s.iff2 := rfl
@[simp] theorem State.recordIn_im (k : Word) (v : Byte) : (s.recordIn k v).im = s.im := rfl
@[simp] theorem State.recordIn_budget (k : Word) (v : Byte) : (s.recordIn k v).budget = s.budget := rfl
@[simp] theorem State.recordIn_halted (k : Word) (v : Byte) : (s.recordIn k v).halted = s.halted := rfl
@[simp] theorem State.recordIn_mem (k : Word) (v : Byte) : (s.recordIn k v).mem = s.mem := rfl
@[simp] theorem State.recordIn_events (k : Word) (v : Byte) : (s.recordIn k v).events = s.events ++ [.input k v s.portInstrPc] := rfl

/-! ## portOut -/

@[simp] theorem State.portOut_a (k : Word) (v : Byte) : (s.portOut k v).a = s.a := rfl
@[simp] theorem State.portOut_f (k : Word) (v : Byte) : (s.portOut k v).f = s.f := rfl
@[simp] theorem State.portOut_b (k : Word) (v : Byte) : (s.portOut k v).b = s.b := rfl
@[simp] theorem State.portOut_c (k : Word) (v : Byte) : (s.portOut k v).c = s.c := rfl
@[simp] theorem State.portOut_d (k : Word) (v : Byte) : (s.portOut k v).d = s.d := rfl
@[simp] theorem State.portOut_e (k : Word) (v : Byte) : (s.portOut k v).e = s.e := rfl
@[simp] theorem State.portOut_h (k : Word) (v : Byte) : (s.portOut k v).h = s.h := rfl
@[simp] theorem State.portOut_l (k : Word) (v : Byte) : (s.portOut k v).l = s.l := rfl
@[simp] theorem State.portOut_altA (k : Word) (v : Byte) : (s.portOut k v).altA = s.altA := rfl
@[simp] theorem State.portOut_altF (k : Word) (v : Byte) : (s.portOut k v).altF = s.altF := rfl
@[simp] theorem State.portOut_altB (k : Word) (v : Byte) : (s.portOut k v).altB = s.altB := rfl
@[simp] theorem State.portOut_altC (k : Word) (v : Byte) : (s.portOut k v).altC = s.altC := rfl
@[simp] theorem State.portOut_altD (k : Word) (v : Byte) : (s.portOut k v).altD = s.altD := rfl
@[simp] theorem State.portOut_altE (k : Word) (v : Byte) : (s.portOut k v).altE = s.altE := rfl
@[simp] theorem State.portOut_altH (k : Word) (v : Byte) : (s.portOut k v).altH = s.altH := rfl
@[simp] theorem State.portOut_altL (k : Word) (v : Byte) : (s.portOut k v).altL = s.altL := rfl
@[simp] theorem State.portOut_ix (k : Word) (v : Byte) : (s.portOut k v).ix = s.ix := rfl
@[simp] theorem State.portOut_iy (k : Word) (v : Byte) : (s.portOut k v).iy = s.iy := rfl
@[simp] theorem State.portOut_sp (k : Word) (v : Byte) : (s.portOut k v).sp = s.sp := rfl
@[simp] theorem State.portOut_pc (k : Word) (v : Byte) : (s.portOut k v).pc = s.pc := rfl
@[simp] theorem State.portOut_i (k : Word) (v : Byte) : (s.portOut k v).i = s.i := rfl
@[simp] theorem State.portOut_r (k : Word) (v : Byte) : (s.portOut k v).r = s.r := rfl
@[simp] theorem State.portOut_iff1 (k : Word) (v : Byte) : (s.portOut k v).iff1 = s.iff1 := rfl
@[simp] theorem State.portOut_iff2 (k : Word) (v : Byte) : (s.portOut k v).iff2 = s.iff2 := rfl
@[simp] theorem State.portOut_im (k : Word) (v : Byte) : (s.portOut k v).im = s.im := rfl
@[simp] theorem State.portOut_budget (k : Word) (v : Byte) : (s.portOut k v).budget = s.budget := rfl
@[simp] theorem State.portOut_halted (k : Word) (v : Byte) : (s.portOut k v).halted = s.halted := rfl
@[simp] theorem State.portOut_mem (k : Word) (v : Byte) : (s.portOut k v).mem = s.mem := rfl
@[simp] theorem State.portOut_events (k : Word) (v : Byte) : (s.portOut k v).events = s.events ++ [.output k v s.portInstrPc] := rfl

/-! ## incR -/

@[simp] theorem State.incR_a (n : Nat) : (s.incR n).a = s.a := rfl
@[simp] theorem State.incR_f (n : Nat) : (s.incR n).f = s.f := rfl
@[simp] theorem State.incR_b (n : Nat) : (s.incR n).b = s.b := rfl
@[simp] theorem State.incR_c (n : Nat) : (s.incR n).c = s.c := rfl
@[simp] theorem State.incR_d (n : Nat) : (s.incR n).d = s.d := rfl
@[simp] theorem State.incR_e (n : Nat) : (s.incR n).e = s.e := rfl
@[simp] theorem State.incR_h (n : Nat) : (s.incR n).h = s.h := rfl
@[simp] theorem State.incR_l (n : Nat) : (s.incR n).l = s.l := rfl
@[simp] theorem State.incR_altA (n : Nat) : (s.incR n).altA = s.altA := rfl
@[simp] theorem State.incR_altF (n : Nat) : (s.incR n).altF = s.altF := rfl
@[simp] theorem State.incR_altB (n : Nat) : (s.incR n).altB = s.altB := rfl
@[simp] theorem State.incR_altC (n : Nat) : (s.incR n).altC = s.altC := rfl
@[simp] theorem State.incR_altD (n : Nat) : (s.incR n).altD = s.altD := rfl
@[simp] theorem State.incR_altE (n : Nat) : (s.incR n).altE = s.altE := rfl
@[simp] theorem State.incR_altH (n : Nat) : (s.incR n).altH = s.altH := rfl
@[simp] theorem State.incR_altL (n : Nat) : (s.incR n).altL = s.altL := rfl
@[simp] theorem State.incR_ix (n : Nat) : (s.incR n).ix = s.ix := rfl
@[simp] theorem State.incR_iy (n : Nat) : (s.incR n).iy = s.iy := rfl
@[simp] theorem State.incR_sp (n : Nat) : (s.incR n).sp = s.sp := rfl
@[simp] theorem State.incR_pc (n : Nat) : (s.incR n).pc = s.pc := rfl
@[simp] theorem State.incR_i (n : Nat) : (s.incR n).i = s.i := rfl
@[simp] theorem State.incR_r (n : Nat) : (s.incR n).r = bumpR s.r n := rfl
@[simp] theorem State.incR_iff1 (n : Nat) : (s.incR n).iff1 = s.iff1 := rfl
@[simp] theorem State.incR_iff2 (n : Nat) : (s.incR n).iff2 = s.iff2 := rfl
@[simp] theorem State.incR_im (n : Nat) : (s.incR n).im = s.im := rfl
@[simp] theorem State.incR_budget (n : Nat) : (s.incR n).budget = s.budget := rfl
@[simp] theorem State.incR_halted (n : Nat) : (s.incR n).halted = s.halted := rfl
@[simp] theorem State.incR_mem (n : Nat) : (s.incR n).mem = s.mem := rfl
@[simp] theorem State.incR_events (n : Nat) : (s.incR n).events = s.events := rfl

/-! ## charge -/

@[simp] theorem State.charge_a (n : Nat) : (s.charge n).a = s.a := rfl
@[simp] theorem State.charge_f (n : Nat) : (s.charge n).f = s.f := rfl
@[simp] theorem State.charge_b (n : Nat) : (s.charge n).b = s.b := rfl
@[simp] theorem State.charge_c (n : Nat) : (s.charge n).c = s.c := rfl
@[simp] theorem State.charge_d (n : Nat) : (s.charge n).d = s.d := rfl
@[simp] theorem State.charge_e (n : Nat) : (s.charge n).e = s.e := rfl
@[simp] theorem State.charge_h (n : Nat) : (s.charge n).h = s.h := rfl
@[simp] theorem State.charge_l (n : Nat) : (s.charge n).l = s.l := rfl
@[simp] theorem State.charge_altA (n : Nat) : (s.charge n).altA = s.altA := rfl
@[simp] theorem State.charge_altF (n : Nat) : (s.charge n).altF = s.altF := rfl
@[simp] theorem State.charge_altB (n : Nat) : (s.charge n).altB = s.altB := rfl
@[simp] theorem State.charge_altC (n : Nat) : (s.charge n).altC = s.altC := rfl
@[simp] theorem State.charge_altD (n : Nat) : (s.charge n).altD = s.altD := rfl
@[simp] theorem State.charge_altE (n : Nat) : (s.charge n).altE = s.altE := rfl
@[simp] theorem State.charge_altH (n : Nat) : (s.charge n).altH = s.altH := rfl
@[simp] theorem State.charge_altL (n : Nat) : (s.charge n).altL = s.altL := rfl
@[simp] theorem State.charge_ix (n : Nat) : (s.charge n).ix = s.ix := rfl
@[simp] theorem State.charge_iy (n : Nat) : (s.charge n).iy = s.iy := rfl
@[simp] theorem State.charge_sp (n : Nat) : (s.charge n).sp = s.sp := rfl
@[simp] theorem State.charge_pc (n : Nat) : (s.charge n).pc = s.pc := rfl
@[simp] theorem State.charge_i (n : Nat) : (s.charge n).i = s.i := rfl
@[simp] theorem State.charge_r (n : Nat) : (s.charge n).r = s.r := rfl
@[simp] theorem State.charge_iff1 (n : Nat) : (s.charge n).iff1 = s.iff1 := rfl
@[simp] theorem State.charge_iff2 (n : Nat) : (s.charge n).iff2 = s.iff2 := rfl
@[simp] theorem State.charge_im (n : Nat) : (s.charge n).im = s.im := rfl
@[simp] theorem State.charge_budget (n : Nat) : (s.charge n).budget = s.budget + n := rfl
@[simp] theorem State.charge_halted (n : Nat) : (s.charge n).halted = s.halted := rfl
@[simp] theorem State.charge_mem (n : Nat) : (s.charge n).mem = s.mem := rfl
@[simp] theorem State.charge_events (n : Nat) : (s.charge n).events = s.events := rfl

/-! ## afterFetch -/

@[simp] theorem State.afterFetch_a (n m : Nat) : (s.afterFetch n m).a = s.a := rfl
@[simp] theorem State.afterFetch_f (n m : Nat) : (s.afterFetch n m).f = s.f := rfl
@[simp] theorem State.afterFetch_b (n m : Nat) : (s.afterFetch n m).b = s.b := rfl
@[simp] theorem State.afterFetch_c (n m : Nat) : (s.afterFetch n m).c = s.c := rfl
@[simp] theorem State.afterFetch_d (n m : Nat) : (s.afterFetch n m).d = s.d := rfl
@[simp] theorem State.afterFetch_e (n m : Nat) : (s.afterFetch n m).e = s.e := rfl
@[simp] theorem State.afterFetch_h (n m : Nat) : (s.afterFetch n m).h = s.h := rfl
@[simp] theorem State.afterFetch_l (n m : Nat) : (s.afterFetch n m).l = s.l := rfl
@[simp] theorem State.afterFetch_altA (n m : Nat) : (s.afterFetch n m).altA = s.altA := rfl
@[simp] theorem State.afterFetch_altF (n m : Nat) : (s.afterFetch n m).altF = s.altF := rfl
@[simp] theorem State.afterFetch_altB (n m : Nat) : (s.afterFetch n m).altB = s.altB := rfl
@[simp] theorem State.afterFetch_altC (n m : Nat) : (s.afterFetch n m).altC = s.altC := rfl
@[simp] theorem State.afterFetch_altD (n m : Nat) : (s.afterFetch n m).altD = s.altD := rfl
@[simp] theorem State.afterFetch_altE (n m : Nat) : (s.afterFetch n m).altE = s.altE := rfl
@[simp] theorem State.afterFetch_altH (n m : Nat) : (s.afterFetch n m).altH = s.altH := rfl
@[simp] theorem State.afterFetch_altL (n m : Nat) : (s.afterFetch n m).altL = s.altL := rfl
@[simp] theorem State.afterFetch_ix (n m : Nat) : (s.afterFetch n m).ix = s.ix := rfl
@[simp] theorem State.afterFetch_iy (n m : Nat) : (s.afterFetch n m).iy = s.iy := rfl
@[simp] theorem State.afterFetch_sp (n m : Nat) : (s.afterFetch n m).sp = s.sp := rfl
@[simp] theorem State.afterFetch_pc (n m : Nat) : (s.afterFetch n m).pc = s.pc + BitVec.ofNat 16 n := rfl
@[simp] theorem State.afterFetch_i (n m : Nat) : (s.afterFetch n m).i = s.i := rfl
@[simp] theorem State.afterFetch_r (n m : Nat) : (s.afterFetch n m).r = bumpR s.r m := rfl
@[simp] theorem State.afterFetch_iff1 (n m : Nat) : (s.afterFetch n m).iff1 = s.iff1 := rfl
@[simp] theorem State.afterFetch_iff2 (n m : Nat) : (s.afterFetch n m).iff2 = s.iff2 := rfl
@[simp] theorem State.afterFetch_im (n m : Nat) : (s.afterFetch n m).im = s.im := rfl
@[simp] theorem State.afterFetch_budget (n m : Nat) : (s.afterFetch n m).budget = s.budget := rfl
@[simp] theorem State.afterFetch_halted (n m : Nat) : (s.afterFetch n m).halted = s.halted := rfl
@[simp] theorem State.afterFetch_mem (n m : Nat) : (s.afterFetch n m).mem = s.mem := rfl
@[simp] theorem State.afterFetch_events (n m : Nat) : (s.afterFetch n m).events = s.events := rfl

/-! ## setBc -/

@[simp] theorem State.setBc_a (v : Word) : (s.setBc v).a = s.a := rfl
@[simp] theorem State.setBc_f (v : Word) : (s.setBc v).f = s.f := rfl
@[simp] theorem State.setBc_b (v : Word) : (s.setBc v).b = hiByte v := rfl
@[simp] theorem State.setBc_c (v : Word) : (s.setBc v).c = loByte v := rfl
@[simp] theorem State.setBc_d (v : Word) : (s.setBc v).d = s.d := rfl
@[simp] theorem State.setBc_e (v : Word) : (s.setBc v).e = s.e := rfl
@[simp] theorem State.setBc_h (v : Word) : (s.setBc v).h = s.h := rfl
@[simp] theorem State.setBc_l (v : Word) : (s.setBc v).l = s.l := rfl
@[simp] theorem State.setBc_altA (v : Word) : (s.setBc v).altA = s.altA := rfl
@[simp] theorem State.setBc_altF (v : Word) : (s.setBc v).altF = s.altF := rfl
@[simp] theorem State.setBc_altB (v : Word) : (s.setBc v).altB = s.altB := rfl
@[simp] theorem State.setBc_altC (v : Word) : (s.setBc v).altC = s.altC := rfl
@[simp] theorem State.setBc_altD (v : Word) : (s.setBc v).altD = s.altD := rfl
@[simp] theorem State.setBc_altE (v : Word) : (s.setBc v).altE = s.altE := rfl
@[simp] theorem State.setBc_altH (v : Word) : (s.setBc v).altH = s.altH := rfl
@[simp] theorem State.setBc_altL (v : Word) : (s.setBc v).altL = s.altL := rfl
@[simp] theorem State.setBc_ix (v : Word) : (s.setBc v).ix = s.ix := rfl
@[simp] theorem State.setBc_iy (v : Word) : (s.setBc v).iy = s.iy := rfl
@[simp] theorem State.setBc_sp (v : Word) : (s.setBc v).sp = s.sp := rfl
@[simp] theorem State.setBc_pc (v : Word) : (s.setBc v).pc = s.pc := rfl
@[simp] theorem State.setBc_i (v : Word) : (s.setBc v).i = s.i := rfl
@[simp] theorem State.setBc_r (v : Word) : (s.setBc v).r = s.r := rfl
@[simp] theorem State.setBc_iff1 (v : Word) : (s.setBc v).iff1 = s.iff1 := rfl
@[simp] theorem State.setBc_iff2 (v : Word) : (s.setBc v).iff2 = s.iff2 := rfl
@[simp] theorem State.setBc_im (v : Word) : (s.setBc v).im = s.im := rfl
@[simp] theorem State.setBc_budget (v : Word) : (s.setBc v).budget = s.budget := rfl
@[simp] theorem State.setBc_halted (v : Word) : (s.setBc v).halted = s.halted := rfl
@[simp] theorem State.setBc_mem (v : Word) : (s.setBc v).mem = s.mem := rfl
@[simp] theorem State.setBc_events (v : Word) : (s.setBc v).events = s.events := rfl

/-! ## setDe -/

@[simp] theorem State.setDe_a (v : Word) : (s.setDe v).a = s.a := rfl
@[simp] theorem State.setDe_f (v : Word) : (s.setDe v).f = s.f := rfl
@[simp] theorem State.setDe_b (v : Word) : (s.setDe v).b = s.b := rfl
@[simp] theorem State.setDe_c (v : Word) : (s.setDe v).c = s.c := rfl
@[simp] theorem State.setDe_d (v : Word) : (s.setDe v).d = hiByte v := rfl
@[simp] theorem State.setDe_e (v : Word) : (s.setDe v).e = loByte v := rfl
@[simp] theorem State.setDe_h (v : Word) : (s.setDe v).h = s.h := rfl
@[simp] theorem State.setDe_l (v : Word) : (s.setDe v).l = s.l := rfl
@[simp] theorem State.setDe_altA (v : Word) : (s.setDe v).altA = s.altA := rfl
@[simp] theorem State.setDe_altF (v : Word) : (s.setDe v).altF = s.altF := rfl
@[simp] theorem State.setDe_altB (v : Word) : (s.setDe v).altB = s.altB := rfl
@[simp] theorem State.setDe_altC (v : Word) : (s.setDe v).altC = s.altC := rfl
@[simp] theorem State.setDe_altD (v : Word) : (s.setDe v).altD = s.altD := rfl
@[simp] theorem State.setDe_altE (v : Word) : (s.setDe v).altE = s.altE := rfl
@[simp] theorem State.setDe_altH (v : Word) : (s.setDe v).altH = s.altH := rfl
@[simp] theorem State.setDe_altL (v : Word) : (s.setDe v).altL = s.altL := rfl
@[simp] theorem State.setDe_ix (v : Word) : (s.setDe v).ix = s.ix := rfl
@[simp] theorem State.setDe_iy (v : Word) : (s.setDe v).iy = s.iy := rfl
@[simp] theorem State.setDe_sp (v : Word) : (s.setDe v).sp = s.sp := rfl
@[simp] theorem State.setDe_pc (v : Word) : (s.setDe v).pc = s.pc := rfl
@[simp] theorem State.setDe_i (v : Word) : (s.setDe v).i = s.i := rfl
@[simp] theorem State.setDe_r (v : Word) : (s.setDe v).r = s.r := rfl
@[simp] theorem State.setDe_iff1 (v : Word) : (s.setDe v).iff1 = s.iff1 := rfl
@[simp] theorem State.setDe_iff2 (v : Word) : (s.setDe v).iff2 = s.iff2 := rfl
@[simp] theorem State.setDe_im (v : Word) : (s.setDe v).im = s.im := rfl
@[simp] theorem State.setDe_budget (v : Word) : (s.setDe v).budget = s.budget := rfl
@[simp] theorem State.setDe_halted (v : Word) : (s.setDe v).halted = s.halted := rfl
@[simp] theorem State.setDe_mem (v : Word) : (s.setDe v).mem = s.mem := rfl
@[simp] theorem State.setDe_events (v : Word) : (s.setDe v).events = s.events := rfl

/-! ## setHl -/

@[simp] theorem State.setHl_a (v : Word) : (s.setHl v).a = s.a := rfl
@[simp] theorem State.setHl_f (v : Word) : (s.setHl v).f = s.f := rfl
@[simp] theorem State.setHl_b (v : Word) : (s.setHl v).b = s.b := rfl
@[simp] theorem State.setHl_c (v : Word) : (s.setHl v).c = s.c := rfl
@[simp] theorem State.setHl_d (v : Word) : (s.setHl v).d = s.d := rfl
@[simp] theorem State.setHl_e (v : Word) : (s.setHl v).e = s.e := rfl
@[simp] theorem State.setHl_h (v : Word) : (s.setHl v).h = hiByte v := rfl
@[simp] theorem State.setHl_l (v : Word) : (s.setHl v).l = loByte v := rfl
@[simp] theorem State.setHl_altA (v : Word) : (s.setHl v).altA = s.altA := rfl
@[simp] theorem State.setHl_altF (v : Word) : (s.setHl v).altF = s.altF := rfl
@[simp] theorem State.setHl_altB (v : Word) : (s.setHl v).altB = s.altB := rfl
@[simp] theorem State.setHl_altC (v : Word) : (s.setHl v).altC = s.altC := rfl
@[simp] theorem State.setHl_altD (v : Word) : (s.setHl v).altD = s.altD := rfl
@[simp] theorem State.setHl_altE (v : Word) : (s.setHl v).altE = s.altE := rfl
@[simp] theorem State.setHl_altH (v : Word) : (s.setHl v).altH = s.altH := rfl
@[simp] theorem State.setHl_altL (v : Word) : (s.setHl v).altL = s.altL := rfl
@[simp] theorem State.setHl_ix (v : Word) : (s.setHl v).ix = s.ix := rfl
@[simp] theorem State.setHl_iy (v : Word) : (s.setHl v).iy = s.iy := rfl
@[simp] theorem State.setHl_sp (v : Word) : (s.setHl v).sp = s.sp := rfl
@[simp] theorem State.setHl_pc (v : Word) : (s.setHl v).pc = s.pc := rfl
@[simp] theorem State.setHl_i (v : Word) : (s.setHl v).i = s.i := rfl
@[simp] theorem State.setHl_r (v : Word) : (s.setHl v).r = s.r := rfl
@[simp] theorem State.setHl_iff1 (v : Word) : (s.setHl v).iff1 = s.iff1 := rfl
@[simp] theorem State.setHl_iff2 (v : Word) : (s.setHl v).iff2 = s.iff2 := rfl
@[simp] theorem State.setHl_im (v : Word) : (s.setHl v).im = s.im := rfl
@[simp] theorem State.setHl_budget (v : Word) : (s.setHl v).budget = s.budget := rfl
@[simp] theorem State.setHl_halted (v : Word) : (s.setHl v).halted = s.halted := rfl
@[simp] theorem State.setHl_mem (v : Word) : (s.setHl v).mem = s.mem := rfl
@[simp] theorem State.setHl_events (v : Word) : (s.setHl v).events = s.events := rfl

/-! ## setFlags -/

@[simp] theorem State.setFlags_a (g : Flags) : (s.setFlags g).a = s.a := rfl
@[simp] theorem State.setFlags_f (g : Flags) : (s.setFlags g).f = g.toByte := rfl
@[simp] theorem State.setFlags_b (g : Flags) : (s.setFlags g).b = s.b := rfl
@[simp] theorem State.setFlags_c (g : Flags) : (s.setFlags g).c = s.c := rfl
@[simp] theorem State.setFlags_d (g : Flags) : (s.setFlags g).d = s.d := rfl
@[simp] theorem State.setFlags_e (g : Flags) : (s.setFlags g).e = s.e := rfl
@[simp] theorem State.setFlags_h (g : Flags) : (s.setFlags g).h = s.h := rfl
@[simp] theorem State.setFlags_l (g : Flags) : (s.setFlags g).l = s.l := rfl
@[simp] theorem State.setFlags_altA (g : Flags) : (s.setFlags g).altA = s.altA := rfl
@[simp] theorem State.setFlags_altF (g : Flags) : (s.setFlags g).altF = s.altF := rfl
@[simp] theorem State.setFlags_altB (g : Flags) : (s.setFlags g).altB = s.altB := rfl
@[simp] theorem State.setFlags_altC (g : Flags) : (s.setFlags g).altC = s.altC := rfl
@[simp] theorem State.setFlags_altD (g : Flags) : (s.setFlags g).altD = s.altD := rfl
@[simp] theorem State.setFlags_altE (g : Flags) : (s.setFlags g).altE = s.altE := rfl
@[simp] theorem State.setFlags_altH (g : Flags) : (s.setFlags g).altH = s.altH := rfl
@[simp] theorem State.setFlags_altL (g : Flags) : (s.setFlags g).altL = s.altL := rfl
@[simp] theorem State.setFlags_ix (g : Flags) : (s.setFlags g).ix = s.ix := rfl
@[simp] theorem State.setFlags_iy (g : Flags) : (s.setFlags g).iy = s.iy := rfl
@[simp] theorem State.setFlags_sp (g : Flags) : (s.setFlags g).sp = s.sp := rfl
@[simp] theorem State.setFlags_pc (g : Flags) : (s.setFlags g).pc = s.pc := rfl
@[simp] theorem State.setFlags_i (g : Flags) : (s.setFlags g).i = s.i := rfl
@[simp] theorem State.setFlags_r (g : Flags) : (s.setFlags g).r = s.r := rfl
@[simp] theorem State.setFlags_iff1 (g : Flags) : (s.setFlags g).iff1 = s.iff1 := rfl
@[simp] theorem State.setFlags_iff2 (g : Flags) : (s.setFlags g).iff2 = s.iff2 := rfl
@[simp] theorem State.setFlags_im (g : Flags) : (s.setFlags g).im = s.im := rfl
@[simp] theorem State.setFlags_budget (g : Flags) : (s.setFlags g).budget = s.budget := rfl
@[simp] theorem State.setFlags_halted (g : Flags) : (s.setFlags g).halted = s.halted := rfl
@[simp] theorem State.setFlags_mem (g : Flags) : (s.setFlags g).mem = s.mem := rfl
@[simp] theorem State.setFlags_events (g : Flags) : (s.setFlags g).events = s.events := rfl

/-! ## setAcc -/

@[simp] theorem State.setAcc_a (p : Byte × Flags) : (s.setAcc p).a = p.1 := rfl
@[simp] theorem State.setAcc_f (p : Byte × Flags) : (s.setAcc p).f = p.2.toByte := rfl
@[simp] theorem State.setAcc_b (p : Byte × Flags) : (s.setAcc p).b = s.b := rfl
@[simp] theorem State.setAcc_c (p : Byte × Flags) : (s.setAcc p).c = s.c := rfl
@[simp] theorem State.setAcc_d (p : Byte × Flags) : (s.setAcc p).d = s.d := rfl
@[simp] theorem State.setAcc_e (p : Byte × Flags) : (s.setAcc p).e = s.e := rfl
@[simp] theorem State.setAcc_h (p : Byte × Flags) : (s.setAcc p).h = s.h := rfl
@[simp] theorem State.setAcc_l (p : Byte × Flags) : (s.setAcc p).l = s.l := rfl
@[simp] theorem State.setAcc_altA (p : Byte × Flags) : (s.setAcc p).altA = s.altA := rfl
@[simp] theorem State.setAcc_altF (p : Byte × Flags) : (s.setAcc p).altF = s.altF := rfl
@[simp] theorem State.setAcc_altB (p : Byte × Flags) : (s.setAcc p).altB = s.altB := rfl
@[simp] theorem State.setAcc_altC (p : Byte × Flags) : (s.setAcc p).altC = s.altC := rfl
@[simp] theorem State.setAcc_altD (p : Byte × Flags) : (s.setAcc p).altD = s.altD := rfl
@[simp] theorem State.setAcc_altE (p : Byte × Flags) : (s.setAcc p).altE = s.altE := rfl
@[simp] theorem State.setAcc_altH (p : Byte × Flags) : (s.setAcc p).altH = s.altH := rfl
@[simp] theorem State.setAcc_altL (p : Byte × Flags) : (s.setAcc p).altL = s.altL := rfl
@[simp] theorem State.setAcc_ix (p : Byte × Flags) : (s.setAcc p).ix = s.ix := rfl
@[simp] theorem State.setAcc_iy (p : Byte × Flags) : (s.setAcc p).iy = s.iy := rfl
@[simp] theorem State.setAcc_sp (p : Byte × Flags) : (s.setAcc p).sp = s.sp := rfl
@[simp] theorem State.setAcc_pc (p : Byte × Flags) : (s.setAcc p).pc = s.pc := rfl
@[simp] theorem State.setAcc_i (p : Byte × Flags) : (s.setAcc p).i = s.i := rfl
@[simp] theorem State.setAcc_r (p : Byte × Flags) : (s.setAcc p).r = s.r := rfl
@[simp] theorem State.setAcc_iff1 (p : Byte × Flags) : (s.setAcc p).iff1 = s.iff1 := rfl
@[simp] theorem State.setAcc_iff2 (p : Byte × Flags) : (s.setAcc p).iff2 = s.iff2 := rfl
@[simp] theorem State.setAcc_im (p : Byte × Flags) : (s.setAcc p).im = s.im := rfl
@[simp] theorem State.setAcc_budget (p : Byte × Flags) : (s.setAcc p).budget = s.budget := rfl
@[simp] theorem State.setAcc_halted (p : Byte × Flags) : (s.setAcc p).halted = s.halted := rfl
@[simp] theorem State.setAcc_mem (p : Byte × Flags) : (s.setAcc p).mem = s.mem := rfl
@[simp] theorem State.setAcc_events (p : Byte × Flags) : (s.setAcc p).events = s.events := rfl

/-! ## haltedWait -/

@[simp] theorem State.haltedWait_a : (s.haltedWait).a = s.a := rfl
@[simp] theorem State.haltedWait_f : (s.haltedWait).f = s.f := rfl
@[simp] theorem State.haltedWait_b : (s.haltedWait).b = s.b := rfl
@[simp] theorem State.haltedWait_c : (s.haltedWait).c = s.c := rfl
@[simp] theorem State.haltedWait_d : (s.haltedWait).d = s.d := rfl
@[simp] theorem State.haltedWait_e : (s.haltedWait).e = s.e := rfl
@[simp] theorem State.haltedWait_h : (s.haltedWait).h = s.h := rfl
@[simp] theorem State.haltedWait_l : (s.haltedWait).l = s.l := rfl
@[simp] theorem State.haltedWait_altA : (s.haltedWait).altA = s.altA := rfl
@[simp] theorem State.haltedWait_altF : (s.haltedWait).altF = s.altF := rfl
@[simp] theorem State.haltedWait_altB : (s.haltedWait).altB = s.altB := rfl
@[simp] theorem State.haltedWait_altC : (s.haltedWait).altC = s.altC := rfl
@[simp] theorem State.haltedWait_altD : (s.haltedWait).altD = s.altD := rfl
@[simp] theorem State.haltedWait_altE : (s.haltedWait).altE = s.altE := rfl
@[simp] theorem State.haltedWait_altH : (s.haltedWait).altH = s.altH := rfl
@[simp] theorem State.haltedWait_altL : (s.haltedWait).altL = s.altL := rfl
@[simp] theorem State.haltedWait_ix : (s.haltedWait).ix = s.ix := rfl
@[simp] theorem State.haltedWait_iy : (s.haltedWait).iy = s.iy := rfl
@[simp] theorem State.haltedWait_sp : (s.haltedWait).sp = s.sp := rfl
@[simp] theorem State.haltedWait_pc : (s.haltedWait).pc = s.pc := rfl
@[simp] theorem State.haltedWait_i : (s.haltedWait).i = s.i := rfl
@[simp] theorem State.haltedWait_r : (s.haltedWait).r = bumpR s.r (waitSteps s.budget) := rfl
@[simp] theorem State.haltedWait_iff1 : (s.haltedWait).iff1 = s.iff1 := rfl
@[simp] theorem State.haltedWait_iff2 : (s.haltedWait).iff2 = s.iff2 := rfl
@[simp] theorem State.haltedWait_im : (s.haltedWait).im = s.im := rfl
@[simp] theorem State.haltedWait_budget : (s.haltedWait).budget = s.budget + 4 * (waitSteps s.budget : Int) := rfl
@[simp] theorem State.haltedWait_halted : (s.haltedWait).halted = s.halted := rfl
@[simp] theorem State.haltedWait_mem : (s.haltedWait).mem = s.mem := rfl
@[simp] theorem State.haltedWait_events : (s.haltedWait).events = s.events := rfl

/-! ## setReg8: the fields it never names -/

@[simp] theorem State.setReg8_f (q : Reg8) (v : Byte) : (s.setReg8 q v).f = s.f := by cases q <;> rfl
@[simp] theorem State.setReg8_altA (q : Reg8) (v : Byte) : (s.setReg8 q v).altA = s.altA := by cases q <;> rfl
@[simp] theorem State.setReg8_altF (q : Reg8) (v : Byte) : (s.setReg8 q v).altF = s.altF := by cases q <;> rfl
@[simp] theorem State.setReg8_altB (q : Reg8) (v : Byte) : (s.setReg8 q v).altB = s.altB := by cases q <;> rfl
@[simp] theorem State.setReg8_altC (q : Reg8) (v : Byte) : (s.setReg8 q v).altC = s.altC := by cases q <;> rfl
@[simp] theorem State.setReg8_altD (q : Reg8) (v : Byte) : (s.setReg8 q v).altD = s.altD := by cases q <;> rfl
@[simp] theorem State.setReg8_altE (q : Reg8) (v : Byte) : (s.setReg8 q v).altE = s.altE := by cases q <;> rfl
@[simp] theorem State.setReg8_altH (q : Reg8) (v : Byte) : (s.setReg8 q v).altH = s.altH := by cases q <;> rfl
@[simp] theorem State.setReg8_altL (q : Reg8) (v : Byte) : (s.setReg8 q v).altL = s.altL := by cases q <;> rfl
@[simp] theorem State.setReg8_ix (q : Reg8) (v : Byte) : (s.setReg8 q v).ix = s.ix := by cases q <;> rfl
@[simp] theorem State.setReg8_iy (q : Reg8) (v : Byte) : (s.setReg8 q v).iy = s.iy := by cases q <;> rfl
@[simp] theorem State.setReg8_sp (q : Reg8) (v : Byte) : (s.setReg8 q v).sp = s.sp := by cases q <;> rfl
@[simp] theorem State.setReg8_pc (q : Reg8) (v : Byte) : (s.setReg8 q v).pc = s.pc := by cases q <;> rfl
@[simp] theorem State.setReg8_i (q : Reg8) (v : Byte) : (s.setReg8 q v).i = s.i := by cases q <;> rfl
@[simp] theorem State.setReg8_r (q : Reg8) (v : Byte) : (s.setReg8 q v).r = s.r := by cases q <;> rfl
@[simp] theorem State.setReg8_iff1 (q : Reg8) (v : Byte) : (s.setReg8 q v).iff1 = s.iff1 := by cases q <;> rfl
@[simp] theorem State.setReg8_iff2 (q : Reg8) (v : Byte) : (s.setReg8 q v).iff2 = s.iff2 := by cases q <;> rfl
@[simp] theorem State.setReg8_im (q : Reg8) (v : Byte) : (s.setReg8 q v).im = s.im := by cases q <;> rfl
@[simp] theorem State.setReg8_budget (q : Reg8) (v : Byte) : (s.setReg8 q v).budget = s.budget := by cases q <;> rfl
@[simp] theorem State.setReg8_halted (q : Reg8) (v : Byte) : (s.setReg8 q v).halted = s.halted := by cases q <;> rfl
@[simp] theorem State.setReg8_mem (q : Reg8) (v : Byte) : (s.setReg8 q v).mem = s.mem := by cases q <;> rfl
@[simp] theorem State.setReg8_events (q : Reg8) (v : Byte) : (s.setReg8 q v).events = s.events := by cases q <;> rfl

/-! ## setXy: the fields it never names -/

@[simp] theorem State.setXy_a (x : IdxReg) (v : Word) : (s.setXy x v).a = s.a := by cases x <;> rfl
@[simp] theorem State.setXy_f (x : IdxReg) (v : Word) : (s.setXy x v).f = s.f := by cases x <;> rfl
@[simp] theorem State.setXy_b (x : IdxReg) (v : Word) : (s.setXy x v).b = s.b := by cases x <;> rfl
@[simp] theorem State.setXy_c (x : IdxReg) (v : Word) : (s.setXy x v).c = s.c := by cases x <;> rfl
@[simp] theorem State.setXy_d (x : IdxReg) (v : Word) : (s.setXy x v).d = s.d := by cases x <;> rfl
@[simp] theorem State.setXy_e (x : IdxReg) (v : Word) : (s.setXy x v).e = s.e := by cases x <;> rfl
@[simp] theorem State.setXy_h (x : IdxReg) (v : Word) : (s.setXy x v).h = s.h := by cases x <;> rfl
@[simp] theorem State.setXy_l (x : IdxReg) (v : Word) : (s.setXy x v).l = s.l := by cases x <;> rfl
@[simp] theorem State.setXy_altA (x : IdxReg) (v : Word) : (s.setXy x v).altA = s.altA := by cases x <;> rfl
@[simp] theorem State.setXy_altF (x : IdxReg) (v : Word) : (s.setXy x v).altF = s.altF := by cases x <;> rfl
@[simp] theorem State.setXy_altB (x : IdxReg) (v : Word) : (s.setXy x v).altB = s.altB := by cases x <;> rfl
@[simp] theorem State.setXy_altC (x : IdxReg) (v : Word) : (s.setXy x v).altC = s.altC := by cases x <;> rfl
@[simp] theorem State.setXy_altD (x : IdxReg) (v : Word) : (s.setXy x v).altD = s.altD := by cases x <;> rfl
@[simp] theorem State.setXy_altE (x : IdxReg) (v : Word) : (s.setXy x v).altE = s.altE := by cases x <;> rfl
@[simp] theorem State.setXy_altH (x : IdxReg) (v : Word) : (s.setXy x v).altH = s.altH := by cases x <;> rfl
@[simp] theorem State.setXy_altL (x : IdxReg) (v : Word) : (s.setXy x v).altL = s.altL := by cases x <;> rfl
@[simp] theorem State.setXy_sp (x : IdxReg) (v : Word) : (s.setXy x v).sp = s.sp := by cases x <;> rfl
@[simp] theorem State.setXy_pc (x : IdxReg) (v : Word) : (s.setXy x v).pc = s.pc := by cases x <;> rfl
@[simp] theorem State.setXy_i (x : IdxReg) (v : Word) : (s.setXy x v).i = s.i := by cases x <;> rfl
@[simp] theorem State.setXy_r (x : IdxReg) (v : Word) : (s.setXy x v).r = s.r := by cases x <;> rfl
@[simp] theorem State.setXy_iff1 (x : IdxReg) (v : Word) : (s.setXy x v).iff1 = s.iff1 := by cases x <;> rfl
@[simp] theorem State.setXy_iff2 (x : IdxReg) (v : Word) : (s.setXy x v).iff2 = s.iff2 := by cases x <;> rfl
@[simp] theorem State.setXy_im (x : IdxReg) (v : Word) : (s.setXy x v).im = s.im := by cases x <;> rfl
@[simp] theorem State.setXy_budget (x : IdxReg) (v : Word) : (s.setXy x v).budget = s.budget := by cases x <;> rfl
@[simp] theorem State.setXy_halted (x : IdxReg) (v : Word) : (s.setXy x v).halted = s.halted := by cases x <;> rfl
@[simp] theorem State.setXy_mem (x : IdxReg) (v : Word) : (s.setXy x v).mem = s.mem := by cases x <;> rfl
@[simp] theorem State.setXy_events (x : IdxReg) (v : Word) : (s.setXy x v).events = s.events := by cases x <;> rfl

/-! ## setPair: the fields it never names -/

@[simp] theorem State.setPair_a (p : Pair) (v : Word) : (s.setPair p v).a = s.a := by cases p <;> rfl
@[simp] theorem State.setPair_f (p : Pair) (v : Word) : (s.setPair p v).f = s.f := by cases p <;> rfl
@[simp] theorem State.setPair_altA (p : Pair) (v : Word) : (s.setPair p v).altA = s.altA := by cases p <;> rfl
@[simp] theorem State.setPair_altF (p : Pair) (v : Word) : (s.setPair p v).altF = s.altF := by cases p <;> rfl
@[simp] theorem State.setPair_altB (p : Pair) (v : Word) : (s.setPair p v).altB = s.altB := by cases p <;> rfl
@[simp] theorem State.setPair_altC (p : Pair) (v : Word) : (s.setPair p v).altC = s.altC := by cases p <;> rfl
@[simp] theorem State.setPair_altD (p : Pair) (v : Word) : (s.setPair p v).altD = s.altD := by cases p <;> rfl
@[simp] theorem State.setPair_altE (p : Pair) (v : Word) : (s.setPair p v).altE = s.altE := by cases p <;> rfl
@[simp] theorem State.setPair_altH (p : Pair) (v : Word) : (s.setPair p v).altH = s.altH := by cases p <;> rfl
@[simp] theorem State.setPair_altL (p : Pair) (v : Word) : (s.setPair p v).altL = s.altL := by cases p <;> rfl
@[simp] theorem State.setPair_ix (p : Pair) (v : Word) : (s.setPair p v).ix = s.ix := by cases p <;> rfl
@[simp] theorem State.setPair_iy (p : Pair) (v : Word) : (s.setPair p v).iy = s.iy := by cases p <;> rfl
@[simp] theorem State.setPair_pc (p : Pair) (v : Word) : (s.setPair p v).pc = s.pc := by cases p <;> rfl
@[simp] theorem State.setPair_i (p : Pair) (v : Word) : (s.setPair p v).i = s.i := by cases p <;> rfl
@[simp] theorem State.setPair_r (p : Pair) (v : Word) : (s.setPair p v).r = s.r := by cases p <;> rfl
@[simp] theorem State.setPair_iff1 (p : Pair) (v : Word) : (s.setPair p v).iff1 = s.iff1 := by cases p <;> rfl
@[simp] theorem State.setPair_iff2 (p : Pair) (v : Word) : (s.setPair p v).iff2 = s.iff2 := by cases p <;> rfl
@[simp] theorem State.setPair_im (p : Pair) (v : Word) : (s.setPair p v).im = s.im := by cases p <;> rfl
@[simp] theorem State.setPair_budget (p : Pair) (v : Word) : (s.setPair p v).budget = s.budget := by cases p <;> rfl
@[simp] theorem State.setPair_halted (p : Pair) (v : Word) : (s.setPair p v).halted = s.halted := by cases p <;> rfl
@[simp] theorem State.setPair_mem (p : Pair) (v : Word) : (s.setPair p v).mem = s.mem := by cases p <;> rfl
@[simp] theorem State.setPair_events (p : Pair) (v : Word) : (s.setPair p v).events = s.events := by cases p <;> rfl

/-! ## setPairQ: the fields it never names -/

@[simp] theorem State.setPairQ_altA (p : PairQ) (v : Word) : (s.setPairQ p v).altA = s.altA := by cases p <;> rfl
@[simp] theorem State.setPairQ_altF (p : PairQ) (v : Word) : (s.setPairQ p v).altF = s.altF := by cases p <;> rfl
@[simp] theorem State.setPairQ_altB (p : PairQ) (v : Word) : (s.setPairQ p v).altB = s.altB := by cases p <;> rfl
@[simp] theorem State.setPairQ_altC (p : PairQ) (v : Word) : (s.setPairQ p v).altC = s.altC := by cases p <;> rfl
@[simp] theorem State.setPairQ_altD (p : PairQ) (v : Word) : (s.setPairQ p v).altD = s.altD := by cases p <;> rfl
@[simp] theorem State.setPairQ_altE (p : PairQ) (v : Word) : (s.setPairQ p v).altE = s.altE := by cases p <;> rfl
@[simp] theorem State.setPairQ_altH (p : PairQ) (v : Word) : (s.setPairQ p v).altH = s.altH := by cases p <;> rfl
@[simp] theorem State.setPairQ_altL (p : PairQ) (v : Word) : (s.setPairQ p v).altL = s.altL := by cases p <;> rfl
@[simp] theorem State.setPairQ_ix (p : PairQ) (v : Word) : (s.setPairQ p v).ix = s.ix := by cases p <;> rfl
@[simp] theorem State.setPairQ_iy (p : PairQ) (v : Word) : (s.setPairQ p v).iy = s.iy := by cases p <;> rfl
@[simp] theorem State.setPairQ_sp (p : PairQ) (v : Word) : (s.setPairQ p v).sp = s.sp := by cases p <;> rfl
@[simp] theorem State.setPairQ_pc (p : PairQ) (v : Word) : (s.setPairQ p v).pc = s.pc := by cases p <;> rfl
@[simp] theorem State.setPairQ_i (p : PairQ) (v : Word) : (s.setPairQ p v).i = s.i := by cases p <;> rfl
@[simp] theorem State.setPairQ_r (p : PairQ) (v : Word) : (s.setPairQ p v).r = s.r := by cases p <;> rfl
@[simp] theorem State.setPairQ_iff1 (p : PairQ) (v : Word) : (s.setPairQ p v).iff1 = s.iff1 := by cases p <;> rfl
@[simp] theorem State.setPairQ_iff2 (p : PairQ) (v : Word) : (s.setPairQ p v).iff2 = s.iff2 := by cases p <;> rfl
@[simp] theorem State.setPairQ_im (p : PairQ) (v : Word) : (s.setPairQ p v).im = s.im := by cases p <;> rfl
@[simp] theorem State.setPairQ_budget (p : PairQ) (v : Word) : (s.setPairQ p v).budget = s.budget := by cases p <;> rfl
@[simp] theorem State.setPairQ_halted (p : PairQ) (v : Word) : (s.setPairQ p v).halted = s.halted := by cases p <;> rfl
@[simp] theorem State.setPairQ_mem (p : PairQ) (v : Word) : (s.setPairQ p v).mem = s.mem := by cases p <;> rfl
@[simp] theorem State.setPairQ_events (p : PairQ) (v : Word) : (s.setPairQ p v).events = s.events := by cases p <;> rfl

end Sys2Proof.Machine
end

