-- ==== Sys2Proof/Laws/Ops.lean ====
section
/-! SUPPORT. What each shared operation can do, said once: reads after stores, the canonical form, the ends of an
instruction, the interrupt opportunity, one step, and the repeat loop. -/

namespace Sys2Proof.Machine

/-! ## Reads -/

/-- A read depends on memory alone. -/
theorem State.readByte_congr {s t : State} (h : s.mem = t.mem) (x : Word) : s.readByte x = t.readByte x := by
  unfold State.readByte
  rw [h]

theorem State.readWord_congr {s t : State} (h : s.mem = t.mem) (x : Word) : s.readWord x = t.readWord x := by
  unfold State.readWord
  rw [State.readByte_congr h, State.readByte_congr h]

/-- States with the same memory read alike. -/
theorem SameMemory.of_mem_eq {s t : State} (h : t.mem = s.mem) : SameMemory s t := State.readByte_congr h

theorem SameMemory.refl (s : State) : SameMemory s s := fun _ => rfl

/-! ## Stores -/

/-- A canonical memory stays canonical under a store. -/
theorem MemCanonical.writeByte {s : State} (h : MemCanonical s) (a : Word) (v : Byte) : MemCanonical (s.writeByte a v) := by
  unfold MemCanonical at *
  rw [State.writeByte_mem]
  split
  · exact Memory.wf_write v a.isLt h
  · exact h

theorem MemCanonical.writeWord {s : State} (h : MemCanonical s) (a v : Word) : MemCanonical (s.writeWord a v) :=
  (h.writeByte a _).writeByte _ _

theorem MemCanonical.push16 {s : State} (h : MemCanonical s) (v : Word) : MemCanonical (s.push16 v) :=
  MemCanonical.writeWord (s := { s with sp := s.sp - 2 }) h _ _

/-- What a byte store changes (20_memory.md R54). -/
theorem State.stores_writeByte {s : State} (h : MemCanonical s) (a : Word) (v : Byte) : StoresByte s (s.writeByte a v) a v := by
  intro x
  have hx : x.toNat = a.toNat ↔ x = a := BitVec.toNat_inj
  simp only [State.readByte, State.writeByte_mem]
  split
  · rw [Memory.read_write h]
    simp only [hx, ‹writable a = true›, and_true]
  · rw [if_neg fun c => ‹¬writable a = true› c.2]

/-- A store changes no byte but the one at its address. -/
theorem State.readByte_writeByte_of_ne (s : State) {a x : Word} (h : x ≠ a) (v : Byte) :
    (s.writeByte a v).readByte x = s.readByte x := by
  have hx : x.toNat ≠ a.toNat := fun e => h (BitVec.eq_of_toNat_eq e)
  simp only [State.readByte, State.writeByte_mem]
  split
  · exact Memory.read_write_of_ne hx v _
  · rfl

/-- A store to a read-only bank changes nothing. -/
theorem State.writeByte_readOnly (s : State) {a : Word} (h : writable a = false) (v : Byte) : s.writeByte a v = s := by
  simp [State.writeByte, h]

/-- What a word store changes (R55). -/
theorem State.stores_writeWord {s : State} (h : MemCanonical s) (a v : Word) : StoresWord s (s.writeWord a v) a v := by
  intro x
  rw [State.writeWord, State.stores_writeByte (h.writeByte a _) (a + 1) _ x, State.stores_writeByte h a _ x]

/-- What a push changes (R57). -/
theorem State.stores_push16 {s : State} (h : MemCanonical s) (v : Word) : StoresWord s (s.push16 v) (s.sp - 2) v :=
  State.stores_writeWord (s := { s with sp := s.sp - 2 }) h (s.sp - 2) v

/-- A push changes no byte but the two of its word. -/
theorem State.readByte_push16_of_ne (s : State) (v : Word) {x : Word} (h1 : x ≠ s.sp - 2) (h2 : x ≠ s.sp - 2 + 1) :
    (s.push16 v).readByte x = s.readByte x := by
  unfold State.push16 State.writeWord
  rw [State.readByte_writeByte_of_ne _ h2, State.readByte_writeByte_of_ne _ h1]
  exact State.readByte_congr rfl x

/-- What a store changes is a matter of memory alone. -/
theorem StoresByte.congr {s t u : State} {a : Word} {v : Byte} (h : StoresByte s u a v) (e : t.mem = u.mem) :
    StoresByte s t a v := fun x => (State.readByte_congr e x).trans (h x)

theorem StoresWord.congr {s t u : State} {a v : Word} (h : StoresWord s u a v) (e : t.mem = u.mem) : StoresWord s t a v :=
  fun x => (State.readByte_congr e x).trans (h x)

/-! ## The ends of an instruction -/

theorem finish_eq (P : Params) (i : Instr) (s : State) : finish P i s = .next (s.charge ((P.cycles i).cost false)) := rfl

theorem finishBranch_eq (P : Params) (i : Instr) (b : Bool) (s : State) :
    finishBranch P i b s = .next (s.charge ((P.cycles i).cost b)) := rfl

/-- The table's entries of the repeat forms are the costs that R308 writes out. -/
theorem cycleTable_repeat (i : Instr)
    (h : i = .ldir ∨ i = .lddr ∨ i = .cpir ∨ i = .cpdr ∨ i = .inir ∨ i = .indr ∨ i = .otir ∨ i = .otdr) :
    cycleTable i = blockCosts := by
  rcases h with rfl | rfl | rfl | rfl | rfl | rfl | rfl | rfl <;> rfl

/-- Running a selected row is running it (log 9): the transition rows alone differ. -/
theorem execSelected_eq_exec (i : Instr) (s : State)
    (h : i ≠ .prefixCb ∧ i ≠ .prefixEd ∧ i ≠ .prefixDd ∧ i ≠ .prefixFd ∧ i ≠ .prefixDdCb ∧ i ≠ .prefixFdCb) :
    execSelected i s = exec i s := by
  cases i <;> first | rfl | exact absurd rfl h.1 | exact absurd rfl h.2.1 | exact absurd rfl h.2.2.1 |
    exact absurd rfl h.2.2.2.1 | exact absurd rfl h.2.2.2.2.1 | exact absurd rfl h.2.2.2.2.2

/-! ## The interrupt opportunity and the step -/

/-- The opportunity is not taken, lost, or accepted (60_exceptions.md R352). -/
theorem State.opportunity_cases (s : State) (P : Params) :
    (s.budget < 0 ∧ s.opportunity P = s) ∨
    (0 ≤ s.budget ∧ s.iff1 = false ∧ s.opportunity P = { s with budget := s.budget - Config.frameCycles }) ∨
    (0 ≤ s.budget ∧ s.iff1 = true ∧
      s.opportunity P = { s.acceptInterrupt P with
        budget := (s.acceptInterrupt P).budget - ((Config.frameCycles : Int) - acceptCost s.im) }) := by
  unfold State.opportunity
  split
  · split
    · exact .inr (.inr ⟨‹_›, ‹_›, rfl⟩)
    · exact .inr (.inl ⟨‹_›, by simpa using ‹¬s.iff1 = true›, rfl⟩)
  · exact .inl ⟨by omega, rfl⟩

/-- In mode 2 PC goes to the word at `{I, VECTOR_BYTE}`, read after the push (60_exceptions.md R354). -/
theorem State.acceptInterrupt_pc_mode2 {s : State} (P : Params) (h : s.im = .mode2) :
    (s.acceptInterrupt P).pc = ({ s with halted := false }.push16 s.pc).readWord (wordOf s.i P.vectorByte) := by
  unfold State.acceptInterrupt
  simp only [State.push16_im, State.push16_i, h]
  exact State.readWord_congr rfl _

/-- Accepting keeps the canonical form. -/
theorem MemCanonical.acceptInterrupt {s : State} (h : MemCanonical s) (P : Params) : MemCanonical (s.acceptInterrupt P) := by
  have hp : MemCanonical ({ s with halted := false }.push16 s.pc) :=
    MemCanonical.push16 (s := { s with halted := false }) h _
  unfold State.acceptInterrupt
  dsimp only
  split <;> exact hp

theorem MemCanonical.opportunity {s : State} (h : MemCanonical s) (P : Params) : MemCanonical (s.opportunity P) := by
  rcases s.opportunity_cases P with ⟨-, e⟩ | ⟨-, -, e⟩ | ⟨-, -, e⟩ <;> rw [e]
  · exact h
  · exact h
  · exact h.acceptInterrupt P

/-- One step is a wait, or one instruction decoded at PC (R350, R359). -/
theorem State.stepBy_cases (s : State) (run : Instr → State → Answer) (P : Params) :
    ((s.opportunity P).halted = true ∧ s.stepBy run P = .next (s.opportunity P).haltedWait) ∨
    ((s.opportunity P).halted = false ∧
      s.stepBy run P = run (s.opportunity P).decodeAtPc.instr (s.opportunity P).fetchNext) := by
  unfold State.stepBy
  dsimp only
  cases h : (s.opportunity P).halted <;> simp

theorem step_cases (s : State) :
    (s.opportunity.halted = true ∧ step s = .next s.opportunity.haltedWait) ∨
    (s.opportunity.halted = false ∧ step s = exec s.opportunity.decodeAtPc.instr s.opportunity.fetchNext) :=
  s.stepBy_cases exec Params.default

/-- At the default setting the machine with parameters is the machine. -/
theorem execWith_default (i : Instr) (s : State) : execWith Params.default i s = exec i s := by
  cases i <;> rfl

theorem stepWith_default (s : State) : stepWith Params.default s = step s := by
  have h : execWith Params.default = exec := funext fun i => funext fun t => execWith_default i t
  unfold stepWith step
  rw [h]

/-! ## The repeat loop (47_block.md R308) -/

/-- A property that the iteration, the refresh count, the charge and the move of PC back to the instruction keep holds
after the loop. -/
theorem repeatLoop_keeps {P : State → Prop} {costs : Cycles} {mode : BlockRMode} {body : State → State} {ended : State → Bool}
    (hbody : ∀ s, P s → P (body s)) (hr : ∀ s n, P s → P (s.incR n)) (hc : ∀ s n, P s → P (s.charge n))
    (hpc : ∀ s, P s → P { s with pc := s.pc - 2 }) :
    ∀ (fuel : Nat) (first : Bool) (total : Nat) (s : State), P s → P (repeatLoop costs mode body ended fuel first total s)
  | 0, _, total, s, h => hc s total h
  | fuel + 1, first, total, s, h => by
    have hb := hbody _ (hr s (blockIncR mode first) h)
    unfold repeatLoop
    dsimp only
    split
    · exact hc _ _ hb
    · split
      · exact hc _ _ (hpc _ hb)
      · exact repeatLoop_keeps hbody hr hc hpc fuel false _ _ hb

/-- One turn of the loop. -/
theorem repeatLoop_succ (costs : Cycles) (mode : BlockRMode) (body : State → State) (ended : State → Bool) (fuel : Nat)
    (first : Bool) (total : Nat) (s : State) :
    repeatLoop costs mode body ended (fuel + 1) first total s =
      (let t := body (s.incR (blockIncR mode first))
       if ended t then t.charge (total + costs.cost false)
       else if 0 ≤ t.budget + ((total + costs.cost true : Nat) : Int) then
         { t with pc := t.pc - 2 }.charge (total + costs.cost true)
       else repeatLoop costs mode body ended fuel false (total + costs.cost true) t) := rfl

end Sys2Proof.Machine
end

