-- ==== Sys2Proof/Laws/Frames.lean ====
section
/-! SUPPORT. The frames of Safety.lean, met by the shared updates: a meaning that ends in one of these updates has that frame. -/

namespace Sys2Proof.Machine

theorem LoadsReg8.of_setReg8 (s : State) (r : Reg8) (v : Byte) (n : Nat) :
    LoadsReg8 s (.next ((s.setReg8 r v).charge n)) r v n := by
  refine ⟨_, rfl, ?_, ?_⟩
  · cases r <;> rfl
  · intro q
    cases r <;> cases q <;> rfl

theorem LoadsPair.of_setPair (s : State) (p : Pair) (v : Word) (n : Nat) :
    LoadsPair s (.next ((s.setPair p v).charge n)) p v n := by
  refine ⟨_, rfl, ?_, ?_⟩
  · cases p <;> rfl
  · intro q
    have hv := wordOf_hiByte_loByte v
    cases p <;> cases q <;> first | exact hv | rfl

theorem LoadsXy.of_setXy (s : State) (x : IdxReg) (v : Word) (n : Nat) : LoadsXy s (.next ((s.setXy x v).charge n)) x v n := by
  refine ⟨_, rfl, ?_, ?_⟩
  · cases x <;> rfl
  · intro y
    cases x <;> cases y <;> rfl

theorem StoresOnlyByte.of_writeByte {s : State} (h : MemCanonical s) (a : Word) (v : Byte) (n : Nat) :
    StoresOnlyByte s (.next ((s.writeByte a v).charge n)) a v n :=
  ⟨_, rfl, rfl, (State.stores_writeByte h a v).congr rfl⟩

theorem StoresOnlyWord.of_writeWord {s : State} (h : MemCanonical s) (a v : Word) (n : Nat) :
    StoresOnlyWord s (.next ((s.writeWord a v).charge n)) a v n :=
  ⟨_, rfl, rfl, (State.stores_writeWord h a v).congr rfl⟩

theorem PushesAndGoes.of_push16 {s : State} (h : MemCanonical s) (v : Word) (n : Nat) :
    PushesAndGoes s (.next ((s.push16 v).charge n)) v s.pc n :=
  ⟨_, rfl, rfl, (State.stores_push16 h v).congr rfl⟩

theorem PushesAndGoes.of_callTo {s : State} (h : MemCanonical s) (target : Word) (n : Nat) :
    PushesAndGoes s (.next ((s.callTo target).charge n)) s.pc target n :=
  ⟨_, rfl, rfl, (State.stores_push16 h s.pc).congr rfl⟩

end Sys2Proof.Machine
end

