-- ==== Sys2Proof/Laws/PerInstr.lean ====
section
/-! SUPPORT. The family EncodedLength: the encoder gives an instruction as many bytes as the `length` column of
spec/opcode_table.json gives its row (30_encoding.md R90). -/

namespace Sys2Proof.Laws.EncodedLength

/-- The `length` column of spec/opcode_table.json. -/
def tableLength : Instr → Nat
  | .nop | .ldMemBcA | .ldMemDeA | .incSs _ | .incR _ | .incMemHl | .decR _ | .decMemHl | .rlca | .rrca | .rla
  | .rra | .exAfAf | .addHlSs _ | .ldAMemBc | .ldAMemDe | .decSs _ | .daa | .cpl | .scf | .ccf | .ldRR _ _
  | .ldRMemHl _ | .ldMemHlR _ | .halt | .addAR _ | .addAMemHl | .adcAR _ | .adcAMemHl | .subR _ | .subMemHl
  | .sbcAR _ | .sbcAMemHl | .andR _ | .andMemHl | .xorR _ | .xorMemHl | .orR _ | .orMemHl | .cpR _ | .cpMemHl
  | .retCc _ | .popQq _ | .pushQq _ | .rstP _ | .ret | .exx | .exMemSpHl | .jpHl | .exDeHl | .di | .ei | .ldSpHl
  | .prefixCb | .prefixEd | .prefixDd | .prefixFd | .lonePrefixDd | .lonePrefixFd => 1
  | .ldRN _ _ | .ldMemHlN _ | .djnzE _ | .jrE _ | .jrCcE _ _ | .addAN _ | .adcAN _ | .subN _ | .sbcAN _ | .andN _
  | .xorN _ | .orN _ | .cpN _ | .outPortNA _ | .inAPortN _ | .rlcR _ | .rlcMemHl | .rrcR _ | .rrcMemHl | .rlR _
  | .rlMemHl | .rrR _ | .rrMemHl | .slaR _ | .slaMemHl | .sraR _ | .sraMemHl | .slsR _ | .slsMemHl | .srlR _
  | .srlMemHl | .bitBR _ _ | .bitBMemHl _ | .resBR _ _ | .resBMemHl _ | .setBR _ _ | .setBMemHl _ | .inRPortC _
  | .inPortC | .outPortCR _ | .outPortCZero | .sbcHlSs _ | .adcHlSs _ | .neg | .retn | .reti | .im0 | .im1 | .im2
  | .ldIA | .ldRA | .ldAI | .ldAR | .rrd | .rld | .ldi | .cpi | .ini | .outi | .ldd | .cpd | .ind | .outd | .ldir
  | .cpir | .inir | .otir | .lddr | .cpdr | .indr | .otdr | .edNop _ | .addIxPp _ | .incIx | .decIx | .incIxh
  | .incIxl | .decIxh | .decIxl | .ldIxhR _ | .ldIxlR _ | .ldRIxh _ | .ldRIxl _ | .addAIxh | .addAIxl | .adcAIxh
  | .adcAIxl | .subIxh | .subIxl | .sbcAIxh | .sbcAIxl | .andIxh | .andIxl | .xorIxh | .xorIxl | .orIxh | .orIxl
  | .cpIxh | .cpIxl | .popIx | .exMemSpIx | .pushIx | .jpIx | .ldSpIx | .prefixDdCb | .addIyPp _ | .incIy | .decIy
  | .incIyh | .incIyl | .decIyh | .decIyl | .ldIyhR _ | .ldIylR _ | .ldRIyh _ | .ldRIyl _ | .addAIyh | .addAIyl
  | .adcAIyh | .adcAIyl | .subIyh | .subIyl | .sbcAIyh | .sbcAIyl | .andIyh | .andIyl | .xorIyh | .xorIyl | .orIyh
  | .orIyl | .cpIyh | .cpIyl | .popIy | .exMemSpIy | .pushIy | .jpIy | .ldSpIy | .prefixFdCb => 2
  | .ldDdNn _ _ | .ldMemNnHl _ | .ldHlMemNn _ | .ldMemNnA _ | .ldAMemNn _ | .jpCcNn _ _ | .jpNn _ | .callCcNn _ _
  | .callNn _ | .ldIxhN _ | .ldIxlN _ | .incMemIxd _ | .decMemIxd _ | .ldRMemIxd _ _ | .ldMemIxdR _ _
  | .addAMemIxd _ | .adcAMemIxd _ | .subMemIxd _ | .sbcAMemIxd _ | .andMemIxd _ | .xorMemIxd _ | .orMemIxd _
  | .cpMemIxd _ | .ldIyhN _ | .ldIylN _ | .incMemIyd _ | .decMemIyd _ | .ldRMemIyd _ _ | .ldMemIydR _ _
  | .addAMemIyd _ | .adcAMemIyd _ | .subMemIyd _ | .sbcAMemIyd _ | .andMemIyd _ | .xorMemIyd _ | .orMemIyd _
  | .cpMemIyd _ => 3
  | .ldMemNnDd _ _ | .ldDdMemNn _ _ | .ldIxNn _ | .ldMemNnIx _ | .ldIxMemNn _ | .ldMemIxdN _ _ | .ldIyNn _
  | .ldMemNnIy _ | .ldIyMemNn _ | .ldMemIydN _ _ | .rlcMemIxd _ | .rlcMemIxdR _ _ | .rrcMemIxd _ | .rrcMemIxdR _ _
  | .rlMemIxd _ | .rlMemIxdR _ _ | .rrMemIxd _ | .rrMemIxdR _ _ | .slaMemIxd _ | .slaMemIxdR _ _ | .sraMemIxd _
  | .sraMemIxdR _ _ | .slsMemIxd _ | .slsMemIxdR _ _ | .srlMemIxd _ | .srlMemIxdR _ _ | .bitBMemIxd _ _
  | .resBMemIxd _ _ | .resBMemIxdR _ _ _ | .setBMemIxd _ _ | .setBMemIxdR _ _ _ | .rlcMemIyd _ | .rlcMemIydR _ _
  | .rrcMemIyd _ | .rrcMemIydR _ _ | .rlMemIyd _ | .rlMemIydR _ _ | .rrMemIyd _ | .rrMemIydR _ _ | .slaMemIyd _
  | .slaMemIydR _ _ | .sraMemIyd _ | .sraMemIydR _ _ | .slsMemIyd _ | .slsMemIydR _ _ | .srlMemIyd _
  | .srlMemIydR _ _ | .bitBMemIyd _ _ | .resBMemIyd _ _ | .resBMemIydR _ _ _ | .setBMemIyd _ _ | .setBMemIydR _ _ _ => 4

/-- The statement of the family. -/
def Statement (i : Instr) : Prop := (encode i).length = tableLength i

theorem nop : Statement .nop := rfl
theorem ldDdNn (dd : Pair) (nn : Word) : Statement (.ldDdNn dd nn) := rfl
theorem ldMemBcA : Statement .ldMemBcA := rfl
theorem ldMemDeA : Statement .ldMemDeA := rfl
theorem incSs (ss : Pair) : Statement (.incSs ss) := rfl
theorem incR (r : Reg8) : Statement (.incR r) := rfl
theorem incMemHl : Statement .incMemHl := rfl
theorem decR (r : Reg8) : Statement (.decR r) := rfl
theorem decMemHl : Statement .decMemHl := rfl
theorem ldRN (r : Reg8) (n : Byte) : Statement (.ldRN r n) := rfl
theorem ldMemHlN (n : Byte) : Statement (.ldMemHlN n) := rfl
theorem rlca : Statement .rlca := rfl
theorem rrca : Statement .rrca := rfl
theorem rla : Statement .rla := rfl
theorem rra : Statement .rra := rfl
theorem exAfAf : Statement .exAfAf := rfl
theorem addHlSs (ss : Pair) : Statement (.addHlSs ss) := rfl
theorem ldAMemBc : Statement .ldAMemBc := rfl
theorem ldAMemDe : Statement .ldAMemDe := rfl
theorem decSs (ss : Pair) : Statement (.decSs ss) := rfl
theorem djnzE (e : Byte) : Statement (.djnzE e) := rfl
theorem jrE (e : Byte) : Statement (.jrE e) := rfl
theorem jrCcE (cc : Cond) (e : Byte) : Statement (.jrCcE cc e) := rfl
theorem ldMemNnHl (nn : Word) : Statement (.ldMemNnHl nn) := rfl
theorem ldHlMemNn (nn : Word) : Statement (.ldHlMemNn nn) := rfl
theorem daa : Statement .daa := rfl
theorem cpl : Statement .cpl := rfl
theorem scf : Statement .scf := rfl
theorem ccf : Statement .ccf := rfl
theorem ldMemNnA (nn : Word) : Statement (.ldMemNnA nn) := rfl
theorem ldAMemNn (nn : Word) : Statement (.ldAMemNn nn) := rfl
theorem ldRR (r : Reg8) (r' : Reg8) : Statement (.ldRR r r') := rfl
theorem ldRMemHl (r : Reg8) : Statement (.ldRMemHl r) := rfl
theorem ldMemHlR (r : Reg8) : Statement (.ldMemHlR r) := rfl
theorem halt : Statement .halt := rfl
theorem addAR (r : Reg8) : Statement (.addAR r) := rfl
theorem addAMemHl : Statement .addAMemHl := rfl
theorem addAN (n : Byte) : Statement (.addAN n) := rfl
theorem adcAR (r : Reg8) : Statement (.adcAR r) := rfl
theorem adcAMemHl : Statement .adcAMemHl := rfl
theorem adcAN (n : Byte) : Statement (.adcAN n) := rfl
theorem subR (r : Reg8) : Statement (.subR r) := rfl
theorem subMemHl : Statement .subMemHl := rfl
theorem subN (n : Byte) : Statement (.subN n) := rfl
theorem sbcAR (r : Reg8) : Statement (.sbcAR r) := rfl
theorem sbcAMemHl : Statement .sbcAMemHl := rfl
theorem sbcAN (n : Byte) : Statement (.sbcAN n) := rfl
theorem andR (r : Reg8) : Statement (.andR r) := rfl
theorem andMemHl : Statement .andMemHl := rfl
theorem andN (n : Byte) : Statement (.andN n) := rfl
theorem xorR (r : Reg8) : Statement (.xorR r) := rfl
theorem xorMemHl : Statement .xorMemHl := rfl
theorem xorN (n : Byte) : Statement (.xorN n) := rfl
theorem orR (r : Reg8) : Statement (.orR r) := rfl
theorem orMemHl : Statement .orMemHl := rfl
theorem orN (n : Byte) : Statement (.orN n) := rfl
theorem cpR (r : Reg8) : Statement (.cpR r) := rfl
theorem cpMemHl : Statement .cpMemHl := rfl
theorem cpN (n : Byte) : Statement (.cpN n) := rfl
theorem retCc (cc : Cond) : Statement (.retCc cc) := rfl
theorem popQq (qq : PairQ) : Statement (.popQq qq) := rfl
theorem jpCcNn (cc : Cond) (nn : Word) : Statement (.jpCcNn cc nn) := rfl
theorem jpNn (nn : Word) : Statement (.jpNn nn) := rfl
theorem callCcNn (cc : Cond) (nn : Word) : Statement (.callCcNn cc nn) := rfl
theorem pushQq (qq : PairQ) : Statement (.pushQq qq) := rfl
theorem rstP (p : Byte) : Statement (.rstP p) := rfl
theorem ret : Statement .ret := rfl
theorem callNn (nn : Word) : Statement (.callNn nn) := rfl
theorem outPortNA (n : Byte) : Statement (.outPortNA n) := rfl
theorem inAPortN (n : Byte) : Statement (.inAPortN n) := rfl
theorem exx : Statement .exx := rfl
theorem exMemSpHl : Statement .exMemSpHl := rfl
theorem jpHl : Statement .jpHl := rfl
theorem exDeHl : Statement .exDeHl := rfl
theorem di : Statement .di := rfl
theorem ei : Statement .ei := rfl
theorem ldSpHl : Statement .ldSpHl := rfl
theorem prefixCb : Statement .prefixCb := rfl
theorem prefixEd : Statement .prefixEd := rfl
theorem prefixDd : Statement .prefixDd := rfl
theorem prefixFd : Statement .prefixFd := rfl
theorem rlcR (r : Reg8) : Statement (.rlcR r) := rfl
theorem rlcMemHl : Statement .rlcMemHl := rfl
theorem rrcR (r : Reg8) : Statement (.rrcR r) := rfl
theorem rrcMemHl : Statement .rrcMemHl := rfl
theorem rlR (r : Reg8) : Statement (.rlR r) := rfl
theorem rlMemHl : Statement .rlMemHl := rfl
theorem rrR (r : Reg8) : Statement (.rrR r) := rfl
theorem rrMemHl : Statement .rrMemHl := rfl
theorem slaR (r : Reg8) : Statement (.slaR r) := rfl
theorem slaMemHl : Statement .slaMemHl := rfl
theorem sraR (r : Reg8) : Statement (.sraR r) := rfl
theorem sraMemHl : Statement .sraMemHl := rfl
theorem slsR (r : Reg8) : Statement (.slsR r) := rfl
theorem slsMemHl : Statement .slsMemHl := rfl
theorem srlR (r : Reg8) : Statement (.srlR r) := rfl
theorem srlMemHl : Statement .srlMemHl := rfl
theorem bitBR (b : Fin 8) (r : Reg8) : Statement (.bitBR b r) := rfl
theorem bitBMemHl (b : Fin 8) : Statement (.bitBMemHl b) := rfl
theorem resBR (b : Fin 8) (r : Reg8) : Statement (.resBR b r) := rfl
theorem resBMemHl (b : Fin 8) : Statement (.resBMemHl b) := rfl
theorem setBR (b : Fin 8) (r : Reg8) : Statement (.setBR b r) := rfl
theorem setBMemHl (b : Fin 8) : Statement (.setBMemHl b) := rfl
theorem inRPortC (r : Reg8) : Statement (.inRPortC r) := rfl
theorem inPortC : Statement .inPortC := rfl
theorem outPortCR (r : Reg8) : Statement (.outPortCR r) := rfl
theorem outPortCZero : Statement .outPortCZero := rfl
theorem sbcHlSs (ss : Pair) : Statement (.sbcHlSs ss) := rfl
theorem adcHlSs (ss : Pair) : Statement (.adcHlSs ss) := rfl
theorem ldMemNnDd (nn : Word) (dd : Pair) : Statement (.ldMemNnDd nn dd) := rfl
theorem ldDdMemNn (dd : Pair) (nn : Word) : Statement (.ldDdMemNn dd nn) := rfl
theorem neg : Statement .neg := rfl
theorem retn : Statement .retn := rfl
theorem reti : Statement .reti := rfl
theorem im0 : Statement .im0 := rfl
theorem im1 : Statement .im1 := rfl
theorem im2 : Statement .im2 := rfl
theorem ldIA : Statement .ldIA := rfl
theorem ldRA : Statement .ldRA := rfl
theorem ldAI : Statement .ldAI := rfl
theorem ldAR : Statement .ldAR := rfl
theorem rrd : Statement .rrd := rfl
theorem rld : Statement .rld := rfl
theorem ldi : Statement .ldi := rfl
theorem cpi : Statement .cpi := rfl
theorem ini : Statement .ini := rfl
theorem outi : Statement .outi := rfl
theorem ldd : Statement .ldd := rfl
theorem cpd : Statement .cpd := rfl
theorem ind : Statement .ind := rfl
theorem outd : Statement .outd := rfl
theorem ldir : Statement .ldir := rfl
theorem cpir : Statement .cpir := rfl
theorem inir : Statement .inir := rfl
theorem otir : Statement .otir := rfl
theorem lddr : Statement .lddr := rfl
theorem cpdr : Statement .cpdr := rfl
theorem indr : Statement .indr := rfl
theorem otdr : Statement .otdr := rfl
theorem edNop (op : Byte) : Statement (.edNop op) := rfl
theorem addIxPp (pp : PairX) : Statement (.addIxPp pp) := rfl
theorem ldIxNn (nn : Word) : Statement (.ldIxNn nn) := rfl
theorem ldMemNnIx (nn : Word) : Statement (.ldMemNnIx nn) := rfl
theorem ldIxMemNn (nn : Word) : Statement (.ldIxMemNn nn) := rfl
theorem incIx : Statement .incIx := rfl
theorem decIx : Statement .decIx := rfl
theorem incIxh : Statement .incIxh := rfl
theorem incIxl : Statement .incIxl := rfl
theorem decIxh : Statement .decIxh := rfl
theorem decIxl : Statement .decIxl := rfl
theorem ldIxhN (n : Byte) : Statement (.ldIxhN n) := rfl
theorem ldIxlN (n : Byte) : Statement (.ldIxlN n) := rfl
theorem incMemIxd (d : Byte) : Statement (.incMemIxd d) := rfl
theorem decMemIxd (d : Byte) : Statement (.decMemIxd d) := rfl
theorem ldMemIxdN (d : Byte) (n : Byte) : Statement (.ldMemIxdN d n) := rfl
theorem ldIxhR (r : RegX) : Statement (.ldIxhR r) := rfl
theorem ldIxlR (r : RegX) : Statement (.ldIxlR r) := rfl
theorem ldRIxh (r : Reg8) : Statement (.ldRIxh r) := rfl
theorem ldRIxl (r : Reg8) : Statement (.ldRIxl r) := rfl
theorem ldRMemIxd (r : Reg8) (d : Byte) : Statement (.ldRMemIxd r d) := rfl
theorem ldMemIxdR (d : Byte) (r : Reg8) : Statement (.ldMemIxdR d r) := rfl
theorem addAIxh : Statement .addAIxh := rfl
theorem addAIxl : Statement .addAIxl := rfl
theorem addAMemIxd (d : Byte) : Statement (.addAMemIxd d) := rfl
theorem adcAIxh : Statement .adcAIxh := rfl
theorem adcAIxl : Statement .adcAIxl := rfl
theorem adcAMemIxd (d : Byte) : Statement (.adcAMemIxd d) := rfl
theorem subIxh : Statement .subIxh := rfl
theorem subIxl : Statement .subIxl := rfl
theorem subMemIxd (d : Byte) : Statement (.subMemIxd d) := rfl
theorem sbcAIxh : Statement .sbcAIxh := rfl
theorem sbcAIxl : Statement .sbcAIxl := rfl
theorem sbcAMemIxd (d : Byte) : Statement (.sbcAMemIxd d) := rfl
theorem andIxh : Statement .andIxh := rfl
theorem andIxl : Statement .andIxl := rfl
theorem andMemIxd (d : Byte) : Statement (.andMemIxd d) := rfl
theorem xorIxh : Statement .xorIxh := rfl
theorem xorIxl : Statement .xorIxl := rfl
theorem xorMemIxd (d : Byte) : Statement (.xorMemIxd d) := rfl
theorem orIxh : Statement .orIxh := rfl
theorem orIxl : Statement .orIxl := rfl
theorem orMemIxd (d : Byte) : Statement (.orMemIxd d) := rfl
theorem cpIxh : Statement .cpIxh := rfl
theorem cpIxl : Statement .cpIxl := rfl
theorem cpMemIxd (d : Byte) : Statement (.cpMemIxd d) := rfl
theorem popIx : Statement .popIx := rfl
theorem exMemSpIx : Statement .exMemSpIx := rfl
theorem pushIx : Statement .pushIx := rfl
theorem jpIx : Statement .jpIx := rfl
theorem ldSpIx : Statement .ldSpIx := rfl
theorem prefixDdCb : Statement .prefixDdCb := rfl
theorem lonePrefixDd : Statement .lonePrefixDd := rfl
theorem addIyPp (pp : PairX) : Statement (.addIyPp pp) := rfl
theorem ldIyNn (nn : Word) : Statement (.ldIyNn nn) := rfl
theorem ldMemNnIy (nn : Word) : Statement (.ldMemNnIy nn) := rfl
theorem ldIyMemNn (nn : Word) : Statement (.ldIyMemNn nn) := rfl
theorem incIy : Statement .incIy := rfl
theorem decIy : Statement .decIy := rfl
theorem incIyh : Statement .incIyh := rfl
theorem incIyl : Statement .incIyl := rfl
theorem decIyh : Statement .decIyh := rfl
theorem decIyl : Statement .decIyl := rfl
theorem ldIyhN (n : Byte) : Statement (.ldIyhN n) := rfl
theorem ldIylN (n : Byte) : Statement (.ldIylN n) := rfl
theorem incMemIyd (d : Byte) : Statement (.incMemIyd d) := rfl
theorem decMemIyd (d : Byte) : Statement (.decMemIyd d) := rfl
theorem ldMemIydN (d : Byte) (n : Byte) : Statement (.ldMemIydN d n) := rfl
theorem ldIyhR (r : RegX) : Statement (.ldIyhR r) := rfl
theorem ldIylR (r : RegX) : Statement (.ldIylR r) := rfl
theorem ldRIyh (r : Reg8) : Statement (.ldRIyh r) := rfl
theorem ldRIyl (r : Reg8) : Statement (.ldRIyl r) := rfl
theorem ldRMemIyd (r : Reg8) (d : Byte) : Statement (.ldRMemIyd r d) := rfl
theorem ldMemIydR (d : Byte) (r : Reg8) : Statement (.ldMemIydR d r) := rfl
theorem addAIyh : Statement .addAIyh := rfl
theorem addAIyl : Statement .addAIyl := rfl
theorem addAMemIyd (d : Byte) : Statement (.addAMemIyd d) := rfl
theorem adcAIyh : Statement .adcAIyh := rfl
theorem adcAIyl : Statement .adcAIyl := rfl
theorem adcAMemIyd (d : Byte) : Statement (.adcAMemIyd d) := rfl
theorem subIyh : Statement .subIyh := rfl
theorem subIyl : Statement .subIyl := rfl
theorem subMemIyd (d : Byte) : Statement (.subMemIyd d) := rfl
theorem sbcAIyh : Statement .sbcAIyh := rfl
theorem sbcAIyl : Statement .sbcAIyl := rfl
theorem sbcAMemIyd (d : Byte) : Statement (.sbcAMemIyd d) := rfl
theorem andIyh : Statement .andIyh := rfl
theorem andIyl : Statement .andIyl := rfl
theorem andMemIyd (d : Byte) : Statement (.andMemIyd d) := rfl
theorem xorIyh : Statement .xorIyh := rfl
theorem xorIyl : Statement .xorIyl := rfl
theorem xorMemIyd (d : Byte) : Statement (.xorMemIyd d) := rfl
theorem orIyh : Statement .orIyh := rfl
theorem orIyl : Statement .orIyl := rfl
theorem orMemIyd (d : Byte) : Statement (.orMemIyd d) := rfl
theorem cpIyh : Statement .cpIyh := rfl
theorem cpIyl : Statement .cpIyl := rfl
theorem cpMemIyd (d : Byte) : Statement (.cpMemIyd d) := rfl
theorem popIy : Statement .popIy := rfl
theorem exMemSpIy : Statement .exMemSpIy := rfl
theorem pushIy : Statement .pushIy := rfl
theorem jpIy : Statement .jpIy := rfl
theorem ldSpIy : Statement .ldSpIy := rfl
theorem prefixFdCb : Statement .prefixFdCb := rfl
theorem lonePrefixFd : Statement .lonePrefixFd := rfl
theorem rlcMemIxd (d : Byte) : Statement (.rlcMemIxd d) := rfl
theorem rlcMemIxdR (d : Byte) (r : Reg8) : Statement (.rlcMemIxdR d r) := rfl
theorem rrcMemIxd (d : Byte) : Statement (.rrcMemIxd d) := rfl
theorem rrcMemIxdR (d : Byte) (r : Reg8) : Statement (.rrcMemIxdR d r) := rfl
theorem rlMemIxd (d : Byte) : Statement (.rlMemIxd d) := rfl
theorem rlMemIxdR (d : Byte) (r : Reg8) : Statement (.rlMemIxdR d r) := rfl
theorem rrMemIxd (d : Byte) : Statement (.rrMemIxd d) := rfl
theorem rrMemIxdR (d : Byte) (r : Reg8) : Statement (.rrMemIxdR d r) := rfl
theorem slaMemIxd (d : Byte) : Statement (.slaMemIxd d) := rfl
theorem slaMemIxdR (d : Byte) (r : Reg8) : Statement (.slaMemIxdR d r) := rfl
theorem sraMemIxd (d : Byte) : Statement (.sraMemIxd d) := rfl
theorem sraMemIxdR (d : Byte) (r : Reg8) : Statement (.sraMemIxdR d r) := rfl
theorem slsMemIxd (d : Byte) : Statement (.slsMemIxd d) := rfl
theorem slsMemIxdR (d : Byte) (r : Reg8) : Statement (.slsMemIxdR d r) := rfl
theorem srlMemIxd (d : Byte) : Statement (.srlMemIxd d) := rfl
theorem srlMemIxdR (d : Byte) (r : Reg8) : Statement (.srlMemIxdR d r) := rfl
theorem bitBMemIxd (b : Fin 8) (d : Byte) : Statement (.bitBMemIxd b d) := rfl
theorem resBMemIxd (b : Fin 8) (d : Byte) : Statement (.resBMemIxd b d) := rfl
theorem resBMemIxdR (b : Fin 8) (d : Byte) (r : Reg8) : Statement (.resBMemIxdR b d r) := rfl
theorem setBMemIxd (b : Fin 8) (d : Byte) : Statement (.setBMemIxd b d) := rfl
theorem setBMemIxdR (b : Fin 8) (d : Byte) (r : Reg8) : Statement (.setBMemIxdR b d r) := rfl
theorem rlcMemIyd (d : Byte) : Statement (.rlcMemIyd d) := rfl
theorem rlcMemIydR (d : Byte) (r : Reg8) : Statement (.rlcMemIydR d r) := rfl
theorem rrcMemIyd (d : Byte) : Statement (.rrcMemIyd d) := rfl
theorem rrcMemIydR (d : Byte) (r : Reg8) : Statement (.rrcMemIydR d r) := rfl
theorem rlMemIyd (d : Byte) : Statement (.rlMemIyd d) := rfl
theorem rlMemIydR (d : Byte) (r : Reg8) : Statement (.rlMemIydR d r) := rfl
theorem rrMemIyd (d : Byte) : Statement (.rrMemIyd d) := rfl
theorem rrMemIydR (d : Byte) (r : Reg8) : Statement (.rrMemIydR d r) := rfl
theorem slaMemIyd (d : Byte) : Statement (.slaMemIyd d) := rfl
theorem slaMemIydR (d : Byte) (r : Reg8) : Statement (.slaMemIydR d r) := rfl
theorem sraMemIyd (d : Byte) : Statement (.sraMemIyd d) := rfl
theorem sraMemIydR (d : Byte) (r : Reg8) : Statement (.sraMemIydR d r) := rfl
theorem slsMemIyd (d : Byte) : Statement (.slsMemIyd d) := rfl
theorem slsMemIydR (d : Byte) (r : Reg8) : Statement (.slsMemIydR d r) := rfl
theorem srlMemIyd (d : Byte) : Statement (.srlMemIyd d) := rfl
theorem srlMemIydR (d : Byte) (r : Reg8) : Statement (.srlMemIydR d r) := rfl
theorem bitBMemIyd (b : Fin 8) (d : Byte) : Statement (.bitBMemIyd b d) := rfl
theorem resBMemIyd (b : Fin 8) (d : Byte) : Statement (.resBMemIyd b d) := rfl
theorem resBMemIydR (b : Fin 8) (d : Byte) (r : Reg8) : Statement (.resBMemIydR b d r) := rfl
theorem setBMemIyd (b : Fin 8) (d : Byte) : Statement (.setBMemIyd b d) := rfl
theorem setBMemIydR (b : Fin 8) (d : Byte) (r : Reg8) : Statement (.setBMemIydR b d r) := rfl

end Sys2Proof.Laws.EncodedLength
end

