-- ==== Sys2Proof/Tests/Slice0.lean ====
section
/-! SUPPORT. The package's own tests: what WellFormed refuses, words decoded as the spec's encodings read, single steps with
the outcomes of spec/95_test_vectors.md, and for each obligation a state and operands that meet its hypotheses. -/

namespace Sys2Proof.Machine.Tests

open Sys2Proof Sys2Proof.Machine

/-! ## WellFormed refuses an ill-formed term, one for each check -/

theorem test_wellFormed_jr_cond : (Instr.jrCcE .po 0x00).wellFormed = false := by decide
theorem test_wellFormed_rst_target : (Instr.rstP 0x29).wellFormed = false := by decide
theorem test_wellFormed_ixh_beside_h : (Instr.ldRIxh .h).wellFormed = false := by decide
theorem test_wellFormed_ixl_beside_l : (Instr.ldRIxl .l).wellFormed = false := by decide
theorem test_wellFormed_iyh_beside_l : (Instr.ldRIyh .l).wellFormed = false := by decide
theorem test_wellFormed_iyl_beside_h : (Instr.ldRIyl .h).wellFormed = false := by decide
theorem test_wellFormed_edNop_defined_byte : (Instr.edNop 0x44).wellFormed = false := by decide
theorem test_wellFormed_transitions :
    [Instr.prefixCb, .prefixEd, .prefixDd, .prefixFd, .prefixDdCb, .prefixFdCb].all (fun i => !i.wellFormed) = true := by
  decide

/-! ## Decoding words written out from the spec's encodings -/

/-- All of `bs` is read as `i`. -/
abbrev reads (bs : List Byte) (i : Instr) : Prop :=
  (match decode bs with
   | .ok d => decide (d.instr = i) && d.length == bs.length
   | .error _ => false) = true

/-- 30_encoding.md R83. -/
theorem test_decode_io_cpu_main :
    reads [0x00] .nop ∧
    reads [0x76] .halt ∧
    reads [0xD3, 0xA5] (.outPortNA 0xA5) ∧
    reads [0xDB, 0xA5] (.inAPortN 0xA5) ∧
    reads [0xF3] .di ∧
    reads [0xFB] .ei := by
  decide

/-- 30_encoding.md R83. -/
theorem test_decode_load16_main :
    reads [0x11, 0x34, 0x12] (.ldDdNn .de 0x1234) ∧
    reads [0x08] .exAfAf ∧
    reads [0x22, 0x34, 0x12] (.ldMemNnHl 0x1234) ∧
    reads [0x2A, 0x34, 0x12] (.ldHlMemNn 0x1234) ∧
    reads [0xE1] (.popQq .hl) ∧
    reads [0xF5] (.pushQq .af) ∧
    reads [0xD9] .exx ∧
    reads [0xE3] .exMemSpHl ∧
    reads [0xEB] .exDeHl ∧
    reads [0xF9] .ldSpHl := by
  decide

/-- 30_encoding.md R83. -/
theorem test_decode_load8_main :
    reads [0x02] .ldMemBcA ∧
    reads [0x12] .ldMemDeA ∧
    reads [0x2E, 0xFE] (.ldRN .l 0xFE) ∧
    reads [0x36, 0xFE] (.ldMemHlN 0xFE) ∧
    reads [0x0A] .ldAMemBc ∧
    reads [0x1A] .ldAMemDe ∧
    reads [0x32, 0x34, 0x12] (.ldMemNnA 0x1234) ∧
    reads [0x3A, 0x34, 0x12] (.ldAMemNn 0x1234) ∧
    reads [0x61] (.ldRR .h .c) ∧
    reads [0x4E] (.ldRMemHl .c) ∧
    reads [0x73] (.ldMemHlR .e) := by
  decide

/-- 30_encoding.md R83. -/
theorem test_decode_arith16_main :
    reads [0x33] (.incSs .sp) ∧
    reads [0x19] (.addHlSs .de) ∧
    reads [0x1B] (.decSs .de) := by
  decide

/-- 30_encoding.md R83. -/
theorem test_decode_arith8_main :
    reads [0x1C] (.incR .e) ∧
    reads [0x34] .incMemHl ∧
    reads [0x2D] (.decR .l) ∧
    reads [0x35] .decMemHl ∧
    reads [0x27] .daa ∧
    reads [0x2F] .cpl ∧
    reads [0x37] .scf ∧
    reads [0x3F] .ccf ∧
    reads [0x81] (.addAR .c) ∧
    reads [0x86] .addAMemHl ∧
    reads [0xC6, 0x9C] (.addAN 0x9C) ∧
    reads [0x8C] (.adcAR .h) ∧
    reads [0x8E] .adcAMemHl ∧
    reads [0xCE, 0xFE] (.adcAN 0xFE) ∧
    reads [0x95] (.subR .l) ∧
    reads [0x96] .subMemHl ∧
    reads [0xD6, 0xA5] (.subN 0xA5) ∧
    reads [0x9C] (.sbcAR .h) ∧
    reads [0x9E] .sbcAMemHl ∧
    reads [0xDE, 0xFE] (.sbcAN 0xFE) ∧
    reads [0xA1] (.andR .c) ∧
    reads [0xA6] .andMemHl ∧
    reads [0xE6, 0x9C] (.andN 0x9C) ∧
    reads [0xAF] (.xorR .a) ∧
    reads [0xAE] .xorMemHl ∧
    reads [0xEE, 0x9C] (.xorN 0x9C) ∧
    reads [0xB2] (.orR .d) ∧
    reads [0xB6] .orMemHl ∧
    reads [0xF6, 0xA5] (.orN 0xA5) ∧
    reads [0xBF] (.cpR .a) ∧
    reads [0xBE] .cpMemHl ∧
    reads [0xFE, 0x9C] (.cpN 0x9C) := by
  decide

/-- 30_encoding.md R83. -/
theorem test_decode_rotate_bit_main :
    reads [0x07] .rlca ∧
    reads [0x0F] .rrca ∧
    reads [0x17] .rla ∧
    reads [0x1F] .rra := by
  decide

/-- 30_encoding.md R83. -/
theorem test_decode_control_main :
    reads [0x10, 0xFB] (.djnzE 0xFB) ∧
    reads [0x18, 0x80] (.jrE 0x80) ∧
    reads [0x28, 0xFB] (.jrCcE .z 0xFB) ∧
    reads [0xC8] (.retCc .z) ∧
    reads [0xCA, 0x34, 0x12] (.jpCcNn .z 0x1234) ∧
    reads [0xC3, 0x34, 0x12] (.jpNn 0x1234) ∧
    reads [0xEC, 0x34, 0x12] (.callCcNn .pe 0x1234) ∧
    reads [0xFF] (.rstP 0x38) ∧
    reads [0xC9] .ret ∧
    reads [0xCD, 0x34, 0x12] (.callNn 0x1234) ∧
    reads [0xE9] .jpHl := by
  decide

/-- 30_encoding.md R84. -/
theorem test_decode_rotate_bit_cb :
    reads [0xCB, 0x04] (.rlcR .h) ∧
    reads [0xCB, 0x06] .rlcMemHl ∧
    reads [0xCB, 0x0C] (.rrcR .h) ∧
    reads [0xCB, 0x0E] .rrcMemHl ∧
    reads [0xCB, 0x11] (.rlR .c) ∧
    reads [0xCB, 0x16] .rlMemHl ∧
    reads [0xCB, 0x1C] (.rrR .h) ∧
    reads [0xCB, 0x1E] .rrMemHl ∧
    reads [0xCB, 0x21] (.slaR .c) ∧
    reads [0xCB, 0x26] .slaMemHl ∧
    reads [0xCB, 0x2A] (.sraR .d) ∧
    reads [0xCB, 0x2E] .sraMemHl ∧
    reads [0xCB, 0x37] (.slsR .a) ∧
    reads [0xCB, 0x36] .slsMemHl ∧
    reads [0xCB, 0x3A] (.srlR .d) ∧
    reads [0xCB, 0x3E] .srlMemHl ∧
    reads [0xCB, 0x5F] (.bitBR 3 .a) ∧
    reads [0xCB, 0x6E] (.bitBMemHl 5) ∧
    reads [0xCB, 0x9C] (.resBR 3 .h) ∧
    reads [0xCB, 0xAE] (.resBMemHl 5) ∧
    reads [0xCB, 0xE9] (.setBR 5 .c) ∧
    reads [0xCB, 0xD6] (.setBMemHl 2) := by
  decide

/-- 30_encoding.md R85. -/
theorem test_decode_io_cpu_ed :
    reads [0xED, 0x78] (.inRPortC .a) ∧
    reads [0xED, 0x70] .inPortC ∧
    reads [0xED, 0x49] (.outPortCR .c) ∧
    reads [0xED, 0x71] .outPortCZero ∧
    reads [0xED, 0x46] .im0 ∧
    reads [0xED, 0x56] .im1 ∧
    reads [0xED, 0x5E] .im2 ∧
    reads [0xED, 0x77] (.edNop 0x77) := by
  decide

/-- 30_encoding.md R85. -/
theorem test_decode_arith16_ed :
    reads [0xED, 0x72] (.sbcHlSs .sp) ∧
    reads [0xED, 0x7A] (.adcHlSs .sp) := by
  decide

/-- 30_encoding.md R85. -/
theorem test_decode_load16_ed :
    reads [0xED, 0x53, 0x34, 0x12] (.ldMemNnDd 0x1234 .de) ∧
    reads [0xED, 0x7B, 0x34, 0x12] (.ldDdMemNn .sp 0x1234) := by
  decide

/-- 30_encoding.md R85. -/
theorem test_decode_arith8_ed :
    reads [0xED, 0x44] .neg := by
  decide

/-- 30_encoding.md R85. -/
theorem test_decode_control_ed :
    reads [0xED, 0x45] .retn ∧
    reads [0xED, 0x4D] .reti := by
  decide

/-- 30_encoding.md R85. -/
theorem test_decode_load8_ed :
    reads [0xED, 0x47] .ldIA ∧
    reads [0xED, 0x4F] .ldRA ∧
    reads [0xED, 0x57] .ldAI ∧
    reads [0xED, 0x5F] .ldAR := by
  decide

/-- 30_encoding.md R85. -/
theorem test_decode_rotate_bit_ed :
    reads [0xED, 0x67] .rrd ∧
    reads [0xED, 0x6F] .rld := by
  decide

/-- 30_encoding.md R85. -/
theorem test_decode_block_ed :
    reads [0xED, 0xA0] .ldi ∧
    reads [0xED, 0xA1] .cpi ∧
    reads [0xED, 0xA2] .ini ∧
    reads [0xED, 0xA3] .outi ∧
    reads [0xED, 0xA8] .ldd ∧
    reads [0xED, 0xA9] .cpd ∧
    reads [0xED, 0xAA] .ind ∧
    reads [0xED, 0xAB] .outd ∧
    reads [0xED, 0xB0] .ldir ∧
    reads [0xED, 0xB1] .cpir ∧
    reads [0xED, 0xB2] .inir ∧
    reads [0xED, 0xB3] .otir ∧
    reads [0xED, 0xB8] .lddr ∧
    reads [0xED, 0xB9] .cpdr ∧
    reads [0xED, 0xBA] .indr ∧
    reads [0xED, 0xBB] .otdr := by
  decide

/-- 30_encoding.md R86. -/
theorem test_decode_arith16_dd :
    reads [0xDD, 0x19] (.addIxPp .de) ∧
    reads [0xDD, 0x23] .incIx ∧
    reads [0xDD, 0x2B] .decIx := by
  decide

/-- 30_encoding.md R86. -/
theorem test_decode_load16_dd :
    reads [0xDD, 0x21, 0x34, 0x12] (.ldIxNn 0x1234) ∧
    reads [0xDD, 0x22, 0x34, 0x12] (.ldMemNnIx 0x1234) ∧
    reads [0xDD, 0x2A, 0x34, 0x12] (.ldIxMemNn 0x1234) ∧
    reads [0xDD, 0xE1] .popIx ∧
    reads [0xDD, 0xE3] .exMemSpIx ∧
    reads [0xDD, 0xE5] .pushIx ∧
    reads [0xDD, 0xF9] .ldSpIx := by
  decide

/-- 30_encoding.md R86. -/
theorem test_decode_arith8_dd :
    reads [0xDD, 0x24] .incIxh ∧
    reads [0xDD, 0x2C] .incIxl ∧
    reads [0xDD, 0x25] .decIxh ∧
    reads [0xDD, 0x2D] .decIxl ∧
    reads [0xDD, 0x34, 0x80] (.incMemIxd 0x80) ∧
    reads [0xDD, 0x35, 0x80] (.decMemIxd 0x80) ∧
    reads [0xDD, 0x84] .addAIxh ∧
    reads [0xDD, 0x85] .addAIxl ∧
    reads [0xDD, 0x86, 0x7F] (.addAMemIxd 0x7F) ∧
    reads [0xDD, 0x8C] .adcAIxh ∧
    reads [0xDD, 0x8D] .adcAIxl ∧
    reads [0xDD, 0x8E, 0xFE] (.adcAMemIxd 0xFE) ∧
    reads [0xDD, 0x94] .subIxh ∧
    reads [0xDD, 0x95] .subIxl ∧
    reads [0xDD, 0x96, 0x7F] (.subMemIxd 0x7F) ∧
    reads [0xDD, 0x9C] .sbcAIxh ∧
    reads [0xDD, 0x9D] .sbcAIxl ∧
    reads [0xDD, 0x9E, 0x80] (.sbcAMemIxd 0x80) ∧
    reads [0xDD, 0xA4] .andIxh ∧
    reads [0xDD, 0xA5] .andIxl ∧
    reads [0xDD, 0xA6, 0x7F] (.andMemIxd 0x7F) ∧
    reads [0xDD, 0xAC] .xorIxh ∧
    reads [0xDD, 0xAD] .xorIxl ∧
    reads [0xDD, 0xAE, 0x7F] (.xorMemIxd 0x7F) ∧
    reads [0xDD, 0xB4] .orIxh ∧
    reads [0xDD, 0xB5] .orIxl ∧
    reads [0xDD, 0xB6, 0x80] (.orMemIxd 0x80) ∧
    reads [0xDD, 0xBC] .cpIxh ∧
    reads [0xDD, 0xBD] .cpIxl ∧
    reads [0xDD, 0xBE, 0x7F] (.cpMemIxd 0x7F) := by
  decide

/-- 30_encoding.md R86. -/
theorem test_decode_load8_dd :
    reads [0xDD, 0x26, 0xFE] (.ldIxhN 0xFE) ∧
    reads [0xDD, 0x2E, 0xA5] (.ldIxlN 0xA5) ∧
    reads [0xDD, 0x36, 0x7F, 0xA5] (.ldMemIxdN 0x7F 0xA5) ∧
    reads [0xDD, 0x67] (.ldIxhR .a) ∧
    reads [0xDD, 0x69] (.ldIxlR .c) ∧
    reads [0xDD, 0x54] (.ldRIxh .d) ∧
    reads [0xDD, 0x55] (.ldRIxl .d) ∧
    reads [0xDD, 0x4E, 0x7F] (.ldRMemIxd .c 0x7F) ∧
    reads [0xDD, 0x72, 0xFE] (.ldMemIxdR 0xFE .d) := by
  decide

/-- 30_encoding.md R86. -/
theorem test_decode_control_dd :
    reads [0xDD, 0xE9] .jpIx := by
  decide

/-- 30_encoding.md R86. -/
theorem test_decode_arith16_fd :
    reads [0xFD, 0x19] (.addIyPp .de) ∧
    reads [0xFD, 0x23] .incIy ∧
    reads [0xFD, 0x2B] .decIy := by
  decide

/-- 30_encoding.md R86. -/
theorem test_decode_load16_fd :
    reads [0xFD, 0x21, 0x34, 0x12] (.ldIyNn 0x1234) ∧
    reads [0xFD, 0x22, 0x34, 0x12] (.ldMemNnIy 0x1234) ∧
    reads [0xFD, 0x2A, 0x34, 0x12] (.ldIyMemNn 0x1234) ∧
    reads [0xFD, 0xE1] .popIy ∧
    reads [0xFD, 0xE3] .exMemSpIy ∧
    reads [0xFD, 0xE5] .pushIy ∧
    reads [0xFD, 0xF9] .ldSpIy := by
  decide

/-- 30_encoding.md R86. -/
theorem test_decode_arith8_fd :
    reads [0xFD, 0x24] .incIyh ∧
    reads [0xFD, 0x2C] .incIyl ∧
    reads [0xFD, 0x25] .decIyh ∧
    reads [0xFD, 0x2D] .decIyl ∧
    reads [0xFD, 0x34, 0x80] (.incMemIyd 0x80) ∧
    reads [0xFD, 0x35, 0xFE] (.decMemIyd 0xFE) ∧
    reads [0xFD, 0x84] .addAIyh ∧
    reads [0xFD, 0x85] .addAIyl ∧
    reads [0xFD, 0x86, 0xFE] (.addAMemIyd 0xFE) ∧
    reads [0xFD, 0x8C] .adcAIyh ∧
    reads [0xFD, 0x8D] .adcAIyl ∧
    reads [0xFD, 0x8E, 0xFE] (.adcAMemIyd 0xFE) ∧
    reads [0xFD, 0x94] .subIyh ∧
    reads [0xFD, 0x95] .subIyl ∧
    reads [0xFD, 0x96, 0x7F] (.subMemIyd 0x7F) ∧
    reads [0xFD, 0x9C] .sbcAIyh ∧
    reads [0xFD, 0x9D] .sbcAIyl ∧
    reads [0xFD, 0x9E, 0x7F] (.sbcAMemIyd 0x7F) ∧
    reads [0xFD, 0xA4] .andIyh ∧
    reads [0xFD, 0xA5] .andIyl ∧
    reads [0xFD, 0xA6, 0x80] (.andMemIyd 0x80) ∧
    reads [0xFD, 0xAC] .xorIyh ∧
    reads [0xFD, 0xAD] .xorIyl ∧
    reads [0xFD, 0xAE, 0x7F] (.xorMemIyd 0x7F) ∧
    reads [0xFD, 0xB4] .orIyh ∧
    reads [0xFD, 0xB5] .orIyl ∧
    reads [0xFD, 0xB6, 0xFE] (.orMemIyd 0xFE) ∧
    reads [0xFD, 0xBC] .cpIyh ∧
    reads [0xFD, 0xBD] .cpIyl ∧
    reads [0xFD, 0xBE, 0x7F] (.cpMemIyd 0x7F) := by
  decide

/-- 30_encoding.md R86. -/
theorem test_decode_load8_fd :
    reads [0xFD, 0x26, 0xA5] (.ldIyhN 0xA5) ∧
    reads [0xFD, 0x2E, 0x9C] (.ldIylN 0x9C) ∧
    reads [0xFD, 0x36, 0x80, 0xA5] (.ldMemIydN 0x80 0xA5) ∧
    reads [0xFD, 0x65] (.ldIyhR .xyl) ∧
    reads [0xFD, 0x69] (.ldIylR .c) ∧
    reads [0xFD, 0x5C] (.ldRIyh .e) ∧
    reads [0xFD, 0x4D] (.ldRIyl .c) ∧
    reads [0xFD, 0x66, 0x7F] (.ldRMemIyd .h 0x7F) ∧
    reads [0xFD, 0x75, 0x80] (.ldMemIydR 0x80 .l) := by
  decide

/-- 30_encoding.md R86. -/
theorem test_decode_control_fd :
    reads [0xFD, 0xE9] .jpIy := by
  decide

/-- 30_encoding.md R88. -/
theorem test_decode_rotate_bit_ddcb :
    reads [0xDD, 0xCB, 0x7F, 0x06] (.rlcMemIxd 0x7F) ∧
    reads [0xDD, 0xCB, 0xFE, 0x05] (.rlcMemIxdR 0xFE .l) ∧
    reads [0xDD, 0xCB, 0x80, 0x0E] (.rrcMemIxd 0x80) ∧
    reads [0xDD, 0xCB, 0x80, 0x09] (.rrcMemIxdR 0x80 .c) ∧
    reads [0xDD, 0xCB, 0xFE, 0x16] (.rlMemIxd 0xFE) ∧
    reads [0xDD, 0xCB, 0x80, 0x17] (.rlMemIxdR 0x80 .a) ∧
    reads [0xDD, 0xCB, 0xFE, 0x1E] (.rrMemIxd 0xFE) ∧
    reads [0xDD, 0xCB, 0x80, 0x1C] (.rrMemIxdR 0x80 .h) ∧
    reads [0xDD, 0xCB, 0x80, 0x26] (.slaMemIxd 0x80) ∧
    reads [0xDD, 0xCB, 0x80, 0x27] (.slaMemIxdR 0x80 .a) ∧
    reads [0xDD, 0xCB, 0xFE, 0x2E] (.sraMemIxd 0xFE) ∧
    reads [0xDD, 0xCB, 0x7F, 0x29] (.sraMemIxdR 0x7F .c) ∧
    reads [0xDD, 0xCB, 0xFE, 0x36] (.slsMemIxd 0xFE) ∧
    reads [0xDD, 0xCB, 0xFE, 0x37] (.slsMemIxdR 0xFE .a) ∧
    reads [0xDD, 0xCB, 0xFE, 0x3E] (.srlMemIxd 0xFE) ∧
    reads [0xDD, 0xCB, 0x80, 0x3F] (.srlMemIxdR 0x80 .a) ∧
    reads [0xDD, 0xCB, 0x80, 0x76] (.bitBMemIxd 6 0x80) ∧
    reads [0xDD, 0xCB, 0x80, 0xA6] (.resBMemIxd 4 0x80) ∧
    reads [0xDD, 0xCB, 0xFE, 0xBC] (.resBMemIxdR 7 0xFE .h) ∧
    reads [0xDD, 0xCB, 0x80, 0xEE] (.setBMemIxd 5 0x80) ∧
    reads [0xDD, 0xCB, 0x7F, 0xE4] (.setBMemIxdR 4 0x7F .h) := by
  decide

/-- 30_encoding.md R88. -/
theorem test_decode_rotate_bit_fdcb :
    reads [0xFD, 0xCB, 0x7F, 0x06] (.rlcMemIyd 0x7F) ∧
    reads [0xFD, 0xCB, 0x80, 0x07] (.rlcMemIydR 0x80 .a) ∧
    reads [0xFD, 0xCB, 0x80, 0x0E] (.rrcMemIyd 0x80) ∧
    reads [0xFD, 0xCB, 0x7F, 0x09] (.rrcMemIydR 0x7F .c) ∧
    reads [0xFD, 0xCB, 0xFE, 0x16] (.rlMemIyd 0xFE) ∧
    reads [0xFD, 0xCB, 0x7F, 0x17] (.rlMemIydR 0x7F .a) ∧
    reads [0xFD, 0xCB, 0x80, 0x1E] (.rrMemIyd 0x80) ∧
    reads [0xFD, 0xCB, 0xFE, 0x1C] (.rrMemIydR 0xFE .h) ∧
    reads [0xFD, 0xCB, 0x7F, 0x26] (.slaMemIyd 0x7F) ∧
    reads [0xFD, 0xCB, 0x80, 0x23] (.slaMemIydR 0x80 .e) ∧
    reads [0xFD, 0xCB, 0x7F, 0x2E] (.sraMemIyd 0x7F) ∧
    reads [0xFD, 0xCB, 0x80, 0x2A] (.sraMemIydR 0x80 .d) ∧
    reads [0xFD, 0xCB, 0xFE, 0x36] (.slsMemIyd 0xFE) ∧
    reads [0xFD, 0xCB, 0xFE, 0x32] (.slsMemIydR 0xFE .d) ∧
    reads [0xFD, 0xCB, 0x80, 0x3E] (.srlMemIyd 0x80) ∧
    reads [0xFD, 0xCB, 0x80, 0x3D] (.srlMemIydR 0x80 .l) ∧
    reads [0xFD, 0xCB, 0x7F, 0x6E] (.bitBMemIyd 5 0x7F) ∧
    reads [0xFD, 0xCB, 0x80, 0xBE] (.resBMemIyd 7 0x80) ∧
    reads [0xFD, 0xCB, 0x80, 0xBB] (.resBMemIydR 7 0x80 .e) ∧
    reads [0xFD, 0xCB, 0x80, 0xCE] (.setBMemIyd 1 0x80) ∧
    reads [0xFD, 0xCB, 0x80, 0xFF] (.setBMemIydR 7 0x80 .a) := by
  decide

/-- A lone prefix is one byte, whatever byte without an indexed form follows it (R87). -/
theorem test_decode_lone_prefix :
    decode [0xDD, 0xEB] = .ok ⟨.lonePrefixDd, 1, 1⟩ ∧ decode [0xFD, 0xDD] = .ok ⟨.lonePrefixFd, 1, 1⟩ := by
  decide

/-- The transition rows' own bytes (R71); alone they select no instruction, and the list is too short to decode. -/
theorem test_encode_transitions :
    encode .prefixCb = [0xCB] ∧ encode .prefixEd = [0xED] ∧ encode .prefixDd = [0xDD] ∧ encode .prefixFd = [0xFD] ∧
    encode .prefixDdCb = [0xDD, 0xCB] ∧ encode .prefixFdCb = [0xFD, 0xCB] ∧ decode [0xCB] = .error .truncated := by
  decide

/-- The second encodings of R85 and R263 (D23): NEG, RETN, RETI, IM and BIT b,(XY+d). -/
theorem test_decode_aliases :
    reads [0xED, 0x7C] .neg ∧ reads [0xED, 0x75] .retn ∧ reads [0xED, 0x5D] .reti ∧ reads [0xED, 0x6E] .im0 ∧
    reads [0xED, 0x76] .im1 ∧ reads [0xED, 0x7E] .im2 ∧ reads [0xDD, 0xCB, 0x05, 0x78] (.bitBMemIxd 7 0x05) := by
  decide

/-! ## Single steps: the vectors of 95_test_vectors.md -/

/-- The state the vectors start from, but for the fields each one gives. -/
def start : State := { State.reset with sp := 0xFF00, pc := 0x8000, budget := -1000 }

/-- What `get` finds after one step of `s` with the bytes of `w` at PC. -/
def after {α : Type} (w : Nat) (s : State) (get : State → α) : Option α :=
  match step (s.placeAtPc w) with
  | .next t => some (get t)
  | _ => none

/-- R151, V135. -/
theorem test_v135_ld_a_mix_d_wraps :
    after 0x17EDD (({ start with ix := 0xFFFF }).poke 0x0000 0x3C)
      (fun t => (t.a, t.pc, t.budget)) = some (0x3C, 0x8003, -981) := by
  decide

/-- R31, V137. -/
theorem test_v137_jr_wraps_into_0x0000 :
    after 0x7F18 ({ start with pc := 0xFFF0 })
      (fun t => (t.pc, t.budget)) = some (0x0071, -988) := by
  decide

/-- R140, V66. -/
theorem test_v66_ld_b_c :
    after 0x41 ({ start with c := 0x55 })
      (fun t => (t.b, t.pc, t.budget)) = some (0x55, 0x8001, -996) := by
  decide

/-- R141, V67. -/
theorem test_v67_ld_a_n :
    after 0xA53E (start)
      (fun t => (t.a, t.pc, t.budget)) = some (0xA5, 0x8002, -993) := by
  decide

/-- R142, V68. -/
theorem test_v68_ld_e_mhl :
    after 0x5E (({ start with h := 0x90, l := 0x00 }).poke 0x9000 0x77)
      (fun t => (t.e, t.pc, t.budget)) = some (0x77, 0x8001, -993) := by
  decide

/-- R145, V70. -/
theorem test_v70_ld_a_mde :
    after 0x1A (({ start with d := 0x90, e := 0x00 }).poke 0x9000 0x11)
      (fun t => (t.a, t.pc, t.budget)) = some (0x11, 0x8001, -993) := by
  decide

/-- R149, V72. -/
theorem test_v72_ld_ixh_b :
    after 0x60DD ({ start with ix := 0x1234, b := 0xAB })
      (fun t => (t.ix, t.pc, t.budget)) = some (0xAB34, 0x8002, -992) := by
  decide

/-- R151, V73. -/
theorem test_v73_ld_h_mix_d :
    after 0x8066DD (({ start with ix := 0x9080 }).poke 0x9000 0x5A)
      (fun t => (t.h, t.pc, t.budget)) = some (0x5A, 0x8003, -981) := by
  decide

/-- R154, V75. -/
theorem test_v75_ld_a_i :
    after 0x57ED ({ start with i := 0x80, iff2 := true, f := 0x01 })
      (fun t => (t.a, t.f, t.pc, t.budget)) = some (0x80, 0x85, 0x8002, -991) := by
  decide

/-- R155, V76. -/
theorem test_v76_ld_a_r :
    after 0x5FED ({ start with r := 0x7F, iff2 := false })
      (fun t => (t.a, t.pc, t.r, t.budget)) = some (0x01, 0x8002, 0x01, -991) := by
  decide

/-- R157, V77. -/
theorem test_v77_ld_r_a :
    after 0x4FED ({ start with a := 0x80, r := 0x05 })
      (fun t => (t.pc, t.r, t.budget)) = some (0x8002, 0x80, -991) := by
  decide

/-- R170, V78. -/
theorem test_v78_ld_hl_nn :
    after 0x123421 (start)
      (fun t => (t.h, t.l, t.pc, t.budget)) = some (0x12, 0x34, 0x8003, -990) := by
  decide

/-- R172, V79. -/
theorem test_v79_ld_hl_mnn :
    after 0xFFFF2A (((start).poke 0xFFFF 0x34).poke 0x0000 0x12)
      (fun t => (t.h, t.l, t.pc, t.budget)) = some (0x12, 0x34, 0x8003, -984) := by
  decide

/-- R179, V81. -/
theorem test_v81_ld_sp_ix :
    after 0xF9DD ({ start with ix := 0x4000 })
      (fun t => (t.sp, t.pc, t.budget)) = some (0x4000, 0x8002, -990) := by
  decide

/-- R180, V82. -/
theorem test_v82_push_bc :
    after 0xC5 ({ start with b := 0x12, c := 0x34, sp := 0x0001 })
      (fun t => (t.sp, t.pc, t.budget)) = some (0xFFFF, 0x8001, -989) := by
  decide

/-- R182, V83. -/
theorem test_v83_pop_af :
    after 0xF1 ((({ start with sp := 0x9000 }).poke 0x9000 0xFF).poke 0x9001 0x00)
      (fun t => (t.f, t.sp, t.pc, t.budget)) = some (0xFF, 0x9002, 0x8001, -990) := by
  decide

/-- R184, V84. -/
theorem test_v84_ex_de_hl :
    after 0xEB ({ start with d := 0x11, e := 0x11, h := 0x22, l := 0x22 })
      (fun t => (t.d, t.e, t.h, t.l, t.budget)) = some (0x22, 0x22, 0x11, 0x11, -996) := by
  decide

/-- R185, V85. -/
theorem test_v85_ex_af_af :
    after 0x8 ({ start with a := 0x01, f := 0x02, altA := 0x03, altF := 0x04 })
      (fun t => (t.a, t.f, t.altA, t.altF, t.budget)) = some (0x03, 0x04, 0x01, 0x02, -996) := by
  decide

/-- R186, V86. -/
theorem test_v86_exx :
    after 0xD9 ({ start with b := 0x01, c := 0x02, d := 0x03, e := 0x04, h := 0x05, l := 0x06, altB := 0x0A, altC := 0x0B })
      (fun t => (t.b, t.c, t.d, t.e, t.budget)) = some (0x0A, 0x0B, 0x00, 0x00, -996) := by
  decide

/-- R187, V87. -/
theorem test_v87_ex_msp_hl :
    after 0xE3 ((({ start with h := 0x12, l := 0x34, sp := 0x9000 }).poke 0x9000 0x78).poke 0x9001 0x56)
      (fun t => (t.h, t.l, t.pc, t.budget)) = some (0x56, 0x78, 0x8001, -981) := by
  decide

/-- R201, V1. -/
theorem test_v1_add_a_a :
    after 0x87 ({ start with a := 0x80 })
      (fun t => (t.a, t.f, t.pc, t.budget)) = some (0x00, 0x45, 0x8001, -996) := by
  decide

/-- R201, V2. -/
theorem test_v2_add_a_b :
    after 0x80 ({ start with a := 0x7F, b := 0x01 })
      (fun t => (t.a, t.f, t.pc, t.budget)) = some (0x80, 0x94, 0x8001, -996) := by
  decide

/-- R202, V5. -/
theorem test_v5_adc_a_b :
    after 0x88 ({ start with a := 0xFF, b := 0xFF, f := 0x01 })
      (fun t => (t.f, t.pc, t.budget)) = some (0xB9, 0x8001, -996) := by
  decide

/-- R202, V6. -/
theorem test_v6_adc_a_b :
    after 0x88 ({ start with a := 0x0F, b := 0x00, f := 0x01 })
      (fun t => (t.a, t.f, t.pc, t.budget)) = some (0x10, 0x10, 0x8001, -996) := by
  decide

/-- R203, V7. -/
theorem test_v7_sub_b :
    after 0x90 ({ start with a := 0x00, b := 0x01 })
      (fun t => (t.a, t.f, t.pc, t.budget)) = some (0xFF, 0xBB, 0x8001, -996) := by
  decide

/-- R203, V8. -/
theorem test_v8_sub_b :
    after 0x90 ({ start with a := 0x80, b := 0x01 })
      (fun t => (t.a, t.f, t.pc, t.budget)) = some (0x7F, 0x3E, 0x8001, -996) := by
  decide

/-- R204, V10. -/
theorem test_v10_sbc_a_b :
    after 0x98 ({ start with a := 0x00, b := 0xFF, f := 0x01 })
      (fun t => (t.f, t.pc, t.budget)) = some (0x53, 0x8001, -996) := by
  decide

/-- R205, V11. -/
theorem test_v11_and_b :
    after 0xA0 ({ start with a := 0xF0, b := 0x0F })
      (fun t => (t.a, t.f, t.pc, t.budget)) = some (0x00, 0x54, 0x8001, -996) := by
  decide

/-- R206, V12. -/
theorem test_v12_xor_a :
    after 0xAF ({ start with a := 0x3C, f := 0xFF })
      (fun t => (t.a, t.f, t.pc, t.budget)) = some (0x00, 0x44, 0x8001, -996) := by
  decide

/-- R207, V13. -/
theorem test_v13_or_n :
    after 0x1F6 ({ start with a := 0x80 })
      (fun t => (t.a, t.f, t.pc, t.budget)) = some (0x81, 0x84, 0x8002, -993) := by
  decide

/-- R208, V14. -/
theorem test_v14_cp_b :
    after 0xB8 ({ start with a := 0x10, b := 0x28 })
      (fun t => (t.f, t.pc, t.budget)) = some (0xBB, 0x8001, -996) := by
  decide

/-- R208, V15. -/
theorem test_v15_cp_mhl :
    after 0xBE (({ start with a := 0x42, h := 0x90, l := 0x00 }).poke 0x9000 0x42)
      (fun t => (t.f, t.pc, t.budget)) = some (0x42, 0x8001, -993) := by
  decide

/-- R209, V16. -/
theorem test_v16_inc_b :
    after 0x4 ({ start with b := 0x7F, f := 0x01 })
      (fun t => (t.f, t.b, t.pc, t.budget)) = some (0x95, 0x80, 0x8001, -996) := by
  decide

/-- R209, V17. -/
theorem test_v17_inc_b :
    after 0x4 ({ start with b := 0xFF })
      (fun t => (t.f, t.b, t.pc, t.budget)) = some (0x50, 0x00, 0x8001, -996) := by
  decide

/-- R209, V18. -/
theorem test_v18_dec_b :
    after 0x5 ({ start with b := 0x80 })
      (fun t => (t.f, t.b, t.pc, t.budget)) = some (0x3E, 0x7F, 0x8001, -996) := by
  decide

/-- R209, V19. -/
theorem test_v19_dec_b :
    after 0x5 ({ start with b := 0x00 })
      (fun t => (t.f, t.b, t.pc, t.budget)) = some (0xBA, 0xFF, 0x8001, -996) := by
  decide

/-- R210, V20. -/
theorem test_v20_inc_mhl :
    after 0x34 (({ start with h := 0x90, l := 0x00 }).poke 0x9000 0x0F)
      (fun t => (t.f, t.pc, t.budget)) = some (0x10, 0x8001, -989) := by
  decide

/-- R212, V21. -/
theorem test_v21_inc_mix_d :
    after 0xFF34DD (({ start with ix := 0x9001 }).poke 0x9000 0x41)
      (fun t => (t.pc, t.budget)) = some (0x8003, -977) := by
  decide

/-- R217, V22. -/
theorem test_v22_daa :
    after 0x27 ({ start with a := 0x3C })
      (fun t => (t.a, t.f, t.pc, t.budget)) = some (0x42, 0x14, 0x8001, -996) := by
  decide

/-- R217, V23. -/
theorem test_v23_daa :
    after 0x27 ({ start with a := 0x9A })
      (fun t => (t.a, t.f, t.pc, t.budget)) = some (0x00, 0x55, 0x8001, -996) := by
  decide

/-- R218, V26. -/
theorem test_v26_cpl :
    after 0x2F ({ start with a := 0x5A })
      (fun t => (t.a, t.f, t.pc, t.budget)) = some (0xA5, 0x32, 0x8001, -996) := by
  decide

/-- R219, V27. -/
theorem test_v27_neg :
    after 0x44ED ({ start with a := 0x01 })
      (fun t => (t.a, t.f, t.pc, t.budget)) = some (0xFF, 0xBB, 0x8002, -992) := by
  decide

/-- R219, V28. -/
theorem test_v28_neg :
    after 0x44ED ({ start with a := 0x80 })
      (fun t => (t.f, t.pc, t.budget)) = some (0x87, 0x8002, -992) := by
  decide

/-- R220, V31. -/
theorem test_v31_ccf :
    after 0x3F ({ start with a := 0x28, f := 0x01 })
      (fun t => (t.f, t.pc, t.budget)) = some (0x38, 0x8001, -996) := by
  decide

/-- R221, V32. -/
theorem test_v32_scf :
    after 0x37 ({ start with a := 0x00, f := 0xFE })
      (fun t => (t.f, t.pc, t.budget)) = some (0xC5, 0x8001, -996) := by
  decide

/-- R230, V33. -/
theorem test_v33_add_hl_de :
    after 0x19 ({ start with h := 0x0F, l := 0xFF, d := 0x00, e := 0x01, f := 0xC4 })
      (fun t => (t.f, t.h, t.l, t.pc, t.budget)) = some (0xD4, 0x10, 0x00, 0x8001, -989) := by
  decide

/-- R231, V35. -/
theorem test_v35_add_ix_sp :
    after 0x39DD ({ start with ix := 0x1000, sp := 0x2000 })
      (fun t => (t.f, t.ix, t.pc, t.budget)) = some (0x20, 0x3000, 0x8002, -985) := by
  decide

/-- R232, V36. -/
theorem test_v36_adc_hl_bc :
    after 0x4AED ({ start with h := 0x7F, l := 0xFF, b := 0x00, c := 0x00, f := 0x01 })
      (fun t => (t.f, t.h, t.l, t.pc, t.budget)) = some (0x94, 0x80, 0x00, 0x8002, -985) := by
  decide

/-- R233, V37. -/
theorem test_v37_sbc_hl_de :
    after 0x52ED ({ start with h := 0x12, l := 0x34, d := 0x12, e := 0x34 })
      (fun t => (t.f, t.h, t.l, t.pc, t.budget)) = some (0x42, 0x00, 0x00, 0x8002, -985) := by
  decide

/-- R233, V38. -/
theorem test_v38_sbc_hl_de :
    after 0x52ED ({ start with h := 0x00, l := 0x00, d := 0x00, e := 0x00, f := 0x01 })
      (fun t => (t.f, t.h, t.l, t.pc, t.budget)) = some (0xBB, 0xFF, 0xFF, 0x8002, -985) := by
  decide

/-- R234, V39. -/
theorem test_v39_inc_bc :
    after 0x3 ({ start with b := 0xFF, c := 0xFF })
      (fun t => (t.b, t.c, t.pc, t.budget)) = some (0x00, 0x00, 0x8001, -994) := by
  decide

/-- R236, V40. -/
theorem test_v40_dec_sp :
    after 0x3B ({ start with sp := 0x0000 })
      (fun t => (t.sp, t.pc, t.budget)) = some (0xFFFF, 0x8001, -994) := by
  decide

/-- R235, V41. -/
theorem test_v41_inc_iy :
    after 0x23FD ({ start with iy := 0x00FF })
      (fun t => (t.iy, t.pc, t.budget)) = some (0x0100, 0x8002, -990) := by
  decide

/-- R245, V42. -/
theorem test_v42_rlca :
    after 0x7 ({ start with a := 0x81, f := 0xC4 })
      (fun t => (t.a, t.f, t.pc, t.budget)) = some (0x03, 0xC5, 0x8001, -996) := by
  decide

/-- R246, V43. -/
theorem test_v43_rrca :
    after 0xF ({ start with a := 0x01 })
      (fun t => (t.a, t.f, t.pc, t.budget)) = some (0x80, 0x01, 0x8001, -996) := by
  decide

/-- R247, V44. -/
theorem test_v44_rla :
    after 0x17 ({ start with a := 0x80, f := 0x00 })
      (fun t => (t.a, t.f, t.pc, t.budget)) = some (0x00, 0x01, 0x8001, -996) := by
  decide

/-- R248, V45. -/
theorem test_v45_rra :
    after 0x1F ({ start with a := 0x01, f := 0x01 })
      (fun t => (t.a, t.pc, t.budget)) = some (0x80, 0x8001, -996) := by
  decide

/-- R250, V46. -/
theorem test_v46_rlc_b :
    after 0xCB ({ start with b := 0x80 })
      (fun t => (t.f, t.b, t.pc, t.budget)) = some (0x01, 0x01, 0x8002, -992) := by
  decide

/-- R251, V47. -/
theorem test_v47_rrc_c :
    after 0x9CB ({ start with c := 0x01 })
      (fun t => (t.f, t.c, t.pc, t.budget)) = some (0x81, 0x80, 0x8002, -992) := by
  decide

/-- R252, V48. -/
theorem test_v48_rl_d :
    after 0x12CB ({ start with d := 0x80, f := 0x00 })
      (fun t => (t.f, t.d, t.pc, t.budget)) = some (0x45, 0x00, 0x8002, -992) := by
  decide

/-- R253, V49. -/
theorem test_v49_rr_e :
    after 0x1BCB ({ start with e := 0x00, f := 0x01 })
      (fun t => (t.f, t.e, t.pc, t.budget)) = some (0x80, 0x80, 0x8002, -992) := by
  decide

/-- R254, V50. -/
theorem test_v50_sla_h :
    after 0x24CB ({ start with h := 0xC0 })
      (fun t => (t.f, t.h, t.pc, t.budget)) = some (0x81, 0x80, 0x8002, -992) := by
  decide

/-- R255, V51. -/
theorem test_v51_sra_l :
    after 0x2DCB ({ start with l := 0x81 })
      (fun t => (t.f, t.l, t.pc, t.budget)) = some (0x85, 0xC0, 0x8002, -992) := by
  decide

/-- R256, V52. -/
theorem test_v52_sls_a :
    after 0x37CB ({ start with a := 0x80 })
      (fun t => (t.a, t.f, t.pc, t.budget)) = some (0x01, 0x01, 0x8002, -992) := by
  decide

/-- R257, V53. -/
theorem test_v53_srl_mhl :
    after 0x3ECB (({ start with h := 0x90, l := 0x00 }).poke 0x9000 0x01)
      (fun t => (t.f, t.pc, t.budget)) = some (0x45, 0x8002, -985) := by
  decide

/-- R258, V54. -/
theorem test_v54_bit_7_a :
    after 0x7FCB ({ start with a := 0x80 })
      (fun t => (t.f, t.pc, t.budget)) = some (0x90, 0x8002, -992) := by
  decide

/-- R258, V55. -/
theorem test_v55_bit_0_a :
    after 0x47CB ({ start with a := 0xFE, f := 0x01 })
      (fun t => (t.f, t.pc, t.budget)) = some (0x7D, 0x8002, -992) := by
  decide

/-- R260, V58. -/
theorem test_v58_res_0_c :
    after 0x81CB ({ start with c := 0xFF })
      (fun t => (t.c, t.pc, t.budget)) = some (0xFE, 0x8002, -992) := by
  decide

/-- R262, V59. -/
theorem test_v59_rlc_mix_2 :
    after 0x602CBDD (({ start with ix := 0x9000 }).poke 0x9002 0x81)
      (fun t => (t.f, t.pc, t.budget)) = some (0x05, 0x8004, -977) := by
  decide

/-- R262, V60. -/
theorem test_v60_rlc_mix_2_b :
    after 0x2CBDD (({ start with ix := 0x9000 }).poke 0x9002 0x81)
      (fun t => (t.f, t.b, t.pc, t.budget)) = some (0x05, 0x03, 0x8004, -977) := by
  decide

/-- R263, V61. -/
theorem test_v61_bit_1_miy_1 :
    after 0x4EFFCBFD (({ start with iy := 0x9001 }).poke 0x9000 0x02)
      (fun t => (t.f, t.pc, t.budget)) = some (0x10, 0x8004, -980) := by
  decide

/-- R264, V62. -/
theorem test_v62_res_7_mix_0_h :
    after 0xBC00CBDD (({ start with ix := 0x9000, h := 0x11 }).poke 0x9000 0xFF)
      (fun t => (t.h, t.pc, t.budget)) = some (0x7F, 0x8004, -977) := by
  decide

/-- R266, V64. -/
theorem test_v64_rld :
    after 0x6FED (({ start with a := 0x12, h := 0x90, l := 0x00 }).poke 0x9000 0x34)
      (fun t => (t.a, t.pc, t.budget)) = some (0x13, 0x8002, -982) := by
  decide

/-- R267, V65. -/
theorem test_v65_rrd :
    after 0x67ED (({ start with a := 0x12, h := 0x90, l := 0x00 }).poke 0x9000 0x34)
      (fun t => (t.a, t.f, t.pc, t.budget)) = some (0x14, 0x04, 0x8002, -982) := by
  decide

/-- R272, V88. -/
theorem test_v88_jr_e :
    after 0x1018 ({ start with pc := 0xFFF8 })
      (fun t => (t.pc, t.budget)) = some (0x000A, -988) := by
  decide

/-- R273, V89. -/
theorem test_v89_jr_nz_e :
    after 0xFE20 ({ start with f := 0x40 })
      (fun t => (t.pc, t.budget)) = some (0x8002, -993) := by
  decide

/-- R276, V90. -/
theorem test_v90_djnz_e :
    after 0xFE10 ({ start with b := 0x01 })
      (fun t => (t.b, t.pc, t.budget)) = some (0x00, 0x8002, -992) := by
  decide

/-- R276, V91. -/
theorem test_v91_djnz_e :
    after 0xFE10 ({ start with b := 0x00 })
      (fun t => (t.b, t.budget)) = some (0xFF, -987) := by
  decide

/-- R274, V92. -/
theorem test_v92_jp_mhl :
    after 0xE9 ({ start with h := 0x12, l := 0x34 })
      (fun t => (t.pc, t.budget)) = some (0x1234, -996) := by
  decide

/-- R277, V93. -/
theorem test_v93_call_nn :
    after 0x4000CD ({ start with sp := 0x9000 })
      (fun t => (t.sp, t.pc, t.budget)) = some (0x8FFE, 0x4000, -983) := by
  decide

/-- R278, V94. -/
theorem test_v94_call_nc_nn :
    after 0x4000D4 ({ start with f := 0x01 })
      (fun t => (t.pc, t.budget)) = some (0x8003, -990) := by
  decide

/-- R280, V95. -/
theorem test_v95_ret_po :
    after 0xE0 ((({ start with f := 0x00, sp := 0x9000 }).poke 0x9000 0x00).poke 0x9001 0x40)
      (fun t => (t.sp, t.pc, t.budget)) = some (0x9002, 0x4000, -989) := by
  decide

/-- R281, V96. -/
theorem test_v96_rst_0x28 :
    after 0xEF ({ start with sp := 0x9000 })
      (fun t => (t.sp, t.pc, t.budget)) = some (0x8FFE, 0x0028, -989) := by
  decide

/-- R282, V97. -/
theorem test_v97_retn :
    after 0x45ED ((({ start with sp := 0x9000, iff2 := true }).poke 0x9000 0x00).poke 0x9001 0x40)
      (fun t => (t.sp, t.iff1, t.pc, t.budget)) = some (0x9002, true, 0x4000, -986) := by
  decide

/-- R283, V98. -/
theorem test_v98_reti :
    after 0x4DED ((({ start with sp := 0x9000, iff2 := true }).poke 0x9000 0x00).poke 0x9001 0x40)
      (fun t => (t.sp, t.pc, t.budget)) = some (0x9002, 0x4000, -986) := by
  decide

/-- R300, V99. -/
theorem test_v99_ldi :
    after 0xA0ED (({ start with h := 0x90, l := 0x00, d := 0xA0, e := 0x00, b := 0x00, c := 0x01 }).poke 0x9000 0x11)
      (fun t => (t.c, t.e, t.l, t.pc, t.budget)) = some (0x00, 0x01, 0x01, 0x8002, -984) := by
  decide

/-- R301, V100. -/
theorem test_v100_ldd :
    after 0xA8ED (({ start with h := 0x90, l := 0x00, d := 0xA0, e := 0x00, b := 0x00, c := 0x02 }).poke 0x9000 0x22)
      (fun t => (t.f, t.c, t.d, t.e, t.budget)) = some (0x04, 0x01, 0x9F, 0xFF, -984) := by
  decide

/-- R302, V101. -/
theorem test_v101_cpi :
    after 0xA1ED (({ start with a := 0x11, h := 0x90, l := 0x00, b := 0x00, c := 0x05, f := 0x01 }).poke 0x9000 0x11)
      (fun t => (t.f, t.c, t.l, t.pc, t.budget)) = some (0x47, 0x04, 0x01, 0x8002, -984) := by
  decide

/-- R303, V102. -/
theorem test_v102_cpd :
    after 0xA9ED (({ start with a := 0x10, h := 0x90, l := 0x00, b := 0x00, c := 0x01 }).poke 0x9000 0x20)
      (fun t => (t.f, t.c, t.h, t.l, t.budget)) = some (0xA2, 0x00, 0x8F, 0xFF, -984) := by
  decide

/-- R306, V104. -/
theorem test_v104_outi :
    after 0xA3ED (({ start with b := 0x01, c := 0xFE, h := 0x90, l := 0x00 }).poke 0x9000 0x77)
      (fun t => (t.events, t.b, t.l, t.pc, t.budget)) = some ([.output 0x00FE 0x77 0x8000], 0x00, 0x01, 0x8002, -984) := by
  decide

/-- R309, V105. -/
theorem test_v105_ldir :
    after 0xB0ED (((({ start with h := 0x90, l := 0x00, d := 0xA0, e := 0x00, b := 0x00, c := 0x03 }).poke 0x9000 0x01).poke 0x9001 0x02).poke 0x9002 0x03)
      (fun t => (t.c, t.e, t.l, t.pc, t.budget)) = some (0x00, 0x03, 0x03, 0x8002, -942) := by
  decide

/-- R310, V106. -/
theorem test_v106_lddr :
    after 0xB8ED ((({ start with h := 0x90, l := 0x02, d := 0xA0, e := 0x02, b := 0x00, c := 0x02 }).poke 0x9001 0x05).poke 0x9002 0x06)
      (fun t => (t.c, t.e, t.l, t.pc, t.budget)) = some (0x00, 0x00, 0x00, 0x8002, -963) := by
  decide

/-- R311, V107. -/
theorem test_v107_cpir :
    after 0xB1ED ((({ start with a := 0x33, h := 0x90, l := 0x00, b := 0x00, c := 0x05 }).poke 0x9000 0x11).poke 0x9001 0x33)
      (fun t => (t.f, t.c, t.l, t.pc, t.budget)) = some (0x46, 0x03, 0x02, 0x8002, -963) := by
  decide

/-- R311, V108. -/
theorem test_v108_cpir :
    after 0xB1ED ({ start with a := 0x99, h := 0x90, l := 0x00, b := 0x00, c := 0x02 })
      (fun t => (t.f, t.c, t.l, t.pc, t.budget)) = some (0x8A, 0x00, 0x02, 0x8002, -963) := by
  decide

/-- R315, V110. -/
theorem test_v110_otir :
    after 0xB3ED ((({ start with b := 0x02, c := 0xFE, h := 0x90, l := 0x00 }).poke 0x9000 0xA1).poke 0x9001 0xA2)
      (fun t => (t.events, t.b, t.l, t.pc, t.budget)) = some ([.output 0x01FE 0xA1 0x8000, .output 0x00FE 0xA2 0x8000], 0x00, 0x02, 0x8002, -963) := by
  decide

/-- R308, V111. -/
theorem test_v111_ldir_at_a_checkpoint :
    after 0xB0ED (({ start with h := 0x90, l := 0x00, d := 0xA0, e := 0x00, b := 0x00, c := 0x05, budget := -30 }).poke 0x9000 0x09)
      (fun t => (t.f, t.c, t.e, t.l, t.budget)) = some (0x04, 0x03, 0x02, 0x02, 12) := by
  decide

/-- R328, V115. -/
theorem test_v115_out_mn_a :
    after 0xFED3 ({ start with a := 0x02 })
      (fun t => (t.events, t.pc, t.budget)) = some ([.output 0x02FE 0x02 0x8000], 0x8002, -989) := by
  decide

/-- R330, V116. -/
theorem test_v116_out_mc_0 :
    after 0x71ED ({ start with b := 0x12, c := 0xFE })
      (fun t => (t.events, t.pc, t.budget)) = some ([.output 0x12FE 0x00 0x8000], 0x8002, -988) := by
  decide

/-- R331, V117. -/
theorem test_v117_nop :
    after 0x0 (start)
      (fun t => (t.pc, t.budget)) = some (0x8001, -996) := by
  decide

/-- R332, V118. -/
theorem test_v118_halt :
    after 0x76 ({ start with budget := -10 })
      (fun t => (t.halted, t.pc, t.r, t.budget)) = some (true, 0x8001, 0x03, 2) := by
  decide

/-- R332, V119. -/
theorem test_v119_halt :
    after 0x76 ({ start with budget := -1 })
      (fun t => (t.halted, t.pc, t.r, t.budget)) = some (true, 0x8001, 0x01, 3) := by
  decide

/-- R333, V120. -/
theorem test_v120_di :
    after 0xF3 ({ start with iff1 := true, iff2 := true })
      (fun t => (t.iff1, t.iff2, t.pc, t.budget)) = some (false, false, 0x8001, -996) := by
  decide

/-- R334, V121. -/
theorem test_v121_ei :
    after 0xFB (start)
      (fun t => (t.iff1, t.iff2, t.pc, t.budget)) = some (true, true, 0x8001, -996) := by
  decide

/-- R335, V122. -/
theorem test_v122_im_2 :
    after 0x5EED (start)
      (fun t => (t.im, t.pc, t.budget)) = some (.mode2, 0x8002, -992) := by
  decide

/-- R336, V123. -/
theorem test_v123_ed_nop :
    after 0xED (start)
      (fun t => (t.pc, t.r, t.budget)) = some (0x8002, 0x02, -992) := by
  decide

/-- R336, V124. -/
theorem test_v124_ed_nop_med_ed :
    after 0xEDED (start)
      (fun t => (t.pc, t.r, t.budget)) = some (0x8002, 0x02, -992) := by
  decide

/-- R337, V125. -/
theorem test_v125_dd_alone :
    after 0xDD (start)
      (fun t => (t.pc, t.r, t.budget)) = some (0x8001, 0x01, -996) := by
  decide

/-! ## Stores: where they go, by the vectors that store (the bank's writability is a parameter) -/

/-- R144, V69. -/
theorem test_v69_ld_mhl_n :
    StoresOnlyByte { start with h := 0x90, l := 0x00 } (exec (.ldMemHlN 0x99) { start with h := 0x90, l := 0x00 }) 0x9000 0x99 10 :=
  .of_writeByte (by rfl) _ _ _

/-- R148, V71. -/
theorem test_v71_ld_mnn_a :
    StoresOnlyByte { start with a := 0x66 } (exec (.ldMemNnA 0x9000) { start with a := 0x66 }) 0x9000 0x66 13 :=
  .of_writeByte (by rfl) _ _ _

/-- R153, V74. -/
theorem test_v74_ld_miyd_n :
    StoresOnlyByte { start with iy := 0x9000 } (exec (.ldMemIydN 0x10 0x42) { start with iy := 0x9000 }) 0x9010 0x42 19 :=
  .of_writeByte (by rfl) _ _ _

/-- R176, V80. -/
theorem test_v80_ld_mnn_sp :
    StoresOnlyWord { start with sp := 0xABCD } (exec (.ldMemNnDd 0x9000 .sp) { start with sp := 0xABCD }) 0x9000 0xABCD 20 :=
  .of_writeWord (by rfl) _ _ _

/-- R55, V136: the high byte goes to 0x0000. -/
theorem test_v136_ld_mnn_hl_wraps :
    StoresOnlyWord { start with h := 0xBE, l := 0xEF } (exec (.ldMemNnHl 0xFFFF) { start with h := 0xBE, l := 0xEF }) 0xFFFF
      0xBEEF 16 ∧ (0xFFFF : Word) + 1 = 0x0000 ∧ hiByte 0xBEEF = 0xBE ∧ loByte 0xBEEF = 0xEF :=
  ⟨.of_writeWord (by rfl) _ _ _, by decide⟩

/-- R180, V82. -/
theorem test_v82_push_bc_stores :
    PushesAndGoes { start with b := 0x12, c := 0x34, sp := 0x0001 }
      (exec (.pushQq .bc) { start with b := 0x12, c := 0x34, sp := 0x0001 }) 0x1234 0x8000 11 :=
  .of_push16 (by rfl) _ _

/-- R277, V93: after the fetch of three bytes. -/
theorem test_v93_call_stores :
    PushesAndGoes { start with sp := 0x9000, pc := 0x8003 } (exec (.callNn 0x4000) { start with sp := 0x9000, pc := 0x8003 })
      0x8003 0x4000 17 :=
  .of_callTo (by rfl) _ _

/-- R54, V133: a store to a read-only bank is discarded. -/
theorem test_v133_store_to_read_only_bank (h : Config.bankReadOnly 0 = true) :
    start.writeByte 0x1000 0x55 = start :=
  State.writeByte_readOnly _ (by unfold writable; rw [show bankOf 0x1000 = 0 by decide, h]; rfl) _

/-! ## The interrupt and the halted wait -/

/-- R353, V128 and V132: mode 1, a halted core. -/
theorem test_v132_accept_mode1 :
    let t := { start with budget := 2, halted := true, iff1 := true, im := .mode1, sp := 0x9000 }.opportunity
    (t.pc, t.sp, t.halted, t.iff1, t.iff2) = (0x0038, 0x8FFE, false, false, false) := by
  decide

/-- R354, V129: mode 2 reads the vector word at 0x3FFF, after the push. -/
theorem test_v129_accept_mode2 (s : State)
    (hs : s = ({ start with im := .mode2, i := 0x3F, sp := 0x9000 }.poke 0x3FFF 0x00).poke 0x4000 0x50) :
    s.acceptInterrupt.pc = 0x5000 := by
  rw [State.acceptInterrupt_pc_mode2 _ (by rw [hs]; rfl), State.readWord, State.readByte_push16_of_ne, State.readByte_push16_of_ne] <;>
    (rw [hs]; decide)

/-- R352, V130: declined, with 3 cycles over. -/
theorem test_v130_declined :
    after 0x00 { start with budget := 3 } (fun t => (t.pc, t.iff1)) = some (0x8001, false) := by
  decide

/-- R357, V131: 25 waits of 4 cycles from −98. -/
theorem test_v131_halted_wait :
    let t := { start with halted := true, budget := -98 }.haltedWait
    (t.r, t.budget, t.pc) = (0x19, 2, 0x8000) := by
  decide

/-! ## Both settings of a parameter: the vectors V138 to V145 -/

/-- What `get` finds after one step under the setting `P`. -/
def afterWith {α : Type} (P : Params) (w : Nat) (s : State) (get : State → α) : Option α :=
  match stepWith P (s.placeAtPc w) with
  | .next t => some (get t)
  | _ => none

/-- R354, V145: with VECTOR_BYTE = 0x00 the vector word is at 0x3F00. -/
theorem test_v145_vector_byte (s : State)
    (hs : s = ({ start with im := .mode2, i := 0x3F, sp := 0x9000 }.poke 0x3F00 0x00).poke 0x3F01 0x60) :
    (s.acceptInterrupt { Params.default with vectorByte := 0x00 }).pc = 0x6000 := by
  rw [State.acceptInterrupt_pc_mode2 _ (by rw [hs]; rfl), State.readWord, State.readByte_push16_of_ne,
    State.readByte_push16_of_ne] <;>
    (rw [hs]; decide)

/-- R114, V138: ADD HL,DE with ADD16_SZPV. -/
theorem test_v138_add_hl_step :
    afterWith { Params.default with add16Szpv := true } 0x19 { start with h := 0x7F, l := 0xFF, e := 0x01 }
      (fun t => (t.f, t.h, t.l, t.budget)) = some (0x94, 0x80, 0x00, -989) := by
  decide

/-- R261, V141: RLC (IX+2),B without the copy. -/
theorem test_v141_no_copy_step :
    afterWith { Params.default with ixcbRegCopy := false } 0x0002CBDD ({ start with ix := 0x9000 }.poke 0x9002 0x81)
      (fun t => (t.b, t.f, t.pc)) = some (0x00, 0x05, 0x8004) := by
  decide

/-- R308, V142: R and the cost. -/
theorem test_v142_ldir_refetch_step :
    afterWith { Params.default with blockRMode := .refetch } 0xB0ED { start with h := 0x90, d := 0xA0, c := 0x03 }
      (fun t => (t.r, t.budget, t.pc)) = some (0x06, -942, 0x8002) := by
  decide

/-- R96: another CycleTable changes the cost of LD A,n alone. -/
theorem test_cycle_table_step :
    afterWith { Params.default with cycles := fun _ => .always 100 } 0xA53E start (fun t => (t.a, t.budget)) =
      some (0xA5, -900) := by
  decide

/-- R114, V138 and V139. -/
theorem test_v138_add16_szpv :
    ((add16 true 0x7FFF 0x0001 (Flags.ofByte 0)).2.toByte, (add16 false 0x7FFF 0x0001 (Flags.ofByte 0)).2.toByte) =
      (0x94, 0x10) := by
  decide

/-- R114, V140. -/
theorem test_v140_add16_szpv : (add16 true 0x8000 0x8000 (Flags.ofByte 0)).2.toByte = 0x45 := by decide

/-- R304, V143: `IO_BLOCK_CARRY` set. -/
theorem test_v143_ini_carry :
    let t := { start with b := 0x02, c := 0xFE, h := 0x90 }.inStep true .up
    (t.f, t.b, t.l) = (0x03, 0x01, 0x01) := by
  decide

/-- R283, V144. -/
theorem test_v144_reti_restores : ({ start with iff2 := true }.retiWith true).iff1 = true := by decide

/-! ## Ports: the oracle's byte -/

/-- R325, V112. -/
theorem test_v112_in_a_n :
    after 0xFEDB { start with a := 0x7F } (fun t => (t.a, t.events)) =
      some (readsFromPort start 0x7FFE, [.input 0x7FFE (readsFromPort start 0x7FFE) 0x8000]) := rfl

/-- R326, V113. -/
theorem test_v113_in_d_c :
    after 0x50ED { start with b := 0xFE, c := 0xFE } (fun t => t.d) = some (readsFromPort start 0xFEFE) := rfl

/-- R304, V103: the port is BC before the decrement. -/
theorem test_v103_ini :
    after 0xA2ED { start with b := 0x01, c := 0xFE, h := 0x90 } (fun t => (t.b, t.l, t.events)) =
      some (0x00, 0x01, [.input 0x01FE (readsFromPort start 0x01FE) 0x8000]) := rfl

/-! ## How a program is placed and run -/

/-- From reset, with the word of `LD A,0xA5` placed, the very next step runs it (log 13). -/
theorem test_withFetchWord_from_reset :
    (match step (State.reset.withFetchWord 16 0xA53E) with | .next t => (t.a, t.pc) | _ => (0, 0)) = (0xA5, 0x0002) := by
  decide

/-- The table's numbering: the first byte is the least significant. -/
theorem test_decodeTableWord : decodeTableWord 24 0x12343E = some (.ldRN .a 0x34) ∧ decodeTableWord 8 0xCB = some (.rlcR .b) := by
  decide

/-! ## For each obligation, a state and operands that meet its hypotheses -/

theorem witness_EncodeThenDecode :
    (Instr.jrCcE .c 0x80).wellFormed = true ∧ MayFollow (.jrCcE .c 0x80) [] ∧
    Instr.lonePrefixDd.wellFormed = true ∧ MayFollow .lonePrefixDd [0xEB] ∧
    (Instr.edNop 0xFF).wellFormed = true ∧ MayFollow (.edNop 0xFF) [0xCB] :=
  ⟨rfl, trivial, rfl, ⟨rfl, by decide⟩, rfl, trivial⟩

theorem witness_EveryByteSequenceDecodes :
    let s := { start with pc := 0xFFFD }.placeAtPc 0x42107EDD
    s.readByte s.pc = 0xDD ∧ s.readByte (s.pc + 1) = 0x7E ∧ s.readByte (s.pc + 2) = 0x10 ∧ s.readByte (s.pc + 3) = 0x42 := by
  decide

/-- Documented encodings in each context, the last of them beside a second encoding. -/
theorem witness_DecodedBytesAreTheEncoding :
    isSecondEncoding 0x3E 0xA5 0x00 = false ∧ isSecondEncoding 0xED 0x43 0x12 = false ∧ isSecondEncoding 0xED 0xB0 0x00 = false ∧
    isSecondEncoding 0xED 0xED 0x00 = false ∧ isSecondEncoding 0xDD 0xCB 0x46 = false ∧ isSecondEncoding 0xDD 0xCB 0x47 = true := by
  decide

theorem witness_StepRunsDecodedInstruction :
    ∃ (s o : State) (d : Decoded), o = s.opportunity ∧ o.halted = false ∧
      d = decodeBytes (o.readByte o.pc) (o.readByte (o.pc + 1)) (o.readByte (o.pc + 2)) (o.readByte (o.pc + 3)) :=
  ⟨{ start with budget := 0 }, _, _, rfl, by decide, rfl⟩

theorem witness_StepRunsEncodedInstruction :
    let s := { start with pc := 0xFFFF }.placeAtPc 0xA53E
    let i := Instr.ldRN .a 0xA5
    s.budget < 0 ∧ s.halted = false ∧ i.wellFormed = true ∧
    (∀ k b, (encode i)[k]? = some b → s.readByte (s.pc + BitVec.ofNat 16 k) = b) ∧
    MayFollow i [s.readByte (s.pc + BitVec.ofNat 16 (encode i).length)] := by
  refine ⟨by decide, rfl, rfl, ?_, trivial⟩
  intro k b h
  match k, h with
  | 0, h => cases h; decide
  | 1, h => cases h; decide
  | k + 2, h => cases h

/-- The rows that the six transitions select here are the first of each context. -/
theorem witness_TransitionRunsSelectedRow :
    let s := start
    decodeBitOps (s.readByte s.pc) = ⟨.rlcR .b, 1, 1⟩ ∧
    decodeExtended (s.readByte s.pc) (s.readByte (s.pc + 1)) (s.readByte (s.pc + 2)) = ⟨.edNop 0x00, 1, 1⟩ ∧
    decodeIndexed .ix (s.readByte s.pc) (s.readByte (s.pc + 1)) (s.readByte (s.pc + 2)) = ⟨.lonePrefixDd, 0, 0⟩ ∧
    decodeIndexed .iy (s.readByte s.pc) (s.readByte (s.pc + 1)) (s.readByte (s.pc + 2)) = ⟨.lonePrefixFd, 0, 0⟩ ∧
    decodeIndexedBitOps .ix (s.readByte s.pc) (s.readByte (s.pc + 1)) = ⟨.rlcMemIxdR 0x00 .b, 2, 0⟩ ∧
    decodeIndexedBitOps .iy (s.readByte s.pc) (s.readByte (s.pc + 1)) = ⟨.rlcMemIydR 0x00 .b, 2, 0⟩ := by
  decide

theorem witness_StepKeepsMemoryCanonical : ∃ s t : State, MemCanonical s ∧ step s = .next t :=
  ⟨start.placeAtPc 0x00C5, _, by rfl, by rfl⟩

theorem witness_StepKeepsBudgetInFrame : ∃ s t : State, BudgetInFrame s ∧ step s = .next t :=
  ⟨{ start with budget := -42 }, _, ⟨by simp only [Config.frameCycles]; omega, by decide⟩, by rfl⟩

theorem witness_StepKeepsIffsAgree : ∃ s t : State, IffsAgree s ∧ step s = .next t :=
  ⟨start.placeAtPc 0xFB, _, by rfl, by rfl⟩

theorem witness_ReadOnlyBanksNeverChange : ∃ s t : State, step s = .next t := ⟨start.placeAtPc 0x55321234, _, by rfl⟩

/-- For each clause a step that changes what the clause is about. -/
theorem witness_ControlRegisterWriters :
    after 0x47ED { start with a := 5 } (fun t => decide (t.i ≠ start.i)) = some true ∧
    after 0x5EED start (fun t => decide (t.im ≠ start.im)) = some true ∧
    after 0x4FED { start with a := 0x80 } (fun t => decide (t.r.getLsbD 7 ≠ start.r.getLsbD 7)) = some true ∧
    after 0xFB start (fun t => decide (t.iff1 ≠ start.iff1)) = some true ∧
    after 0x45ED { start with iff2 := true } (fun t => decide (t.iff1 ≠ start.iff1)) = some true ∧
    after 0x76 start (fun t => t.halted) = some true := by
  decide

/-- A step that accepts an interrupt wakes the halted core and clears the flip-flops; it runs the NOP at 0x0038. -/
theorem witness_ControlRegisterWriters_wake :
    ∃ s t : State, step s = .next t ∧ s.halted = true ∧ t.halted = false ∧ t.iff1 ≠ s.iff1 ∧ 0 ≤ s.budget ∧ s.iff1 = true := by
  obtain ⟨s, hs⟩ : ∃ s, s = { start with halted := true, iff1 := true, iff2 := true, budget := 0 } := ⟨_, rfl⟩
  have hr (x : Word) (h1 : x ≠ 0xFEFE) (h2 : x ≠ 0xFEFF) : s.opportunity.readByte x = 0 := by
    have e : s.opportunity.readByte x = ({ s with halted := false }.push16 s.pc).readByte x :=
      State.readByte_congr (by rw [hs]; rfl) x
    rw [e, State.readByte_push16_of_ne _ _ (by rw [hs]; exact h1) (by rw [hs]; exact h2), hs]
    rfl
  have hd : s.opportunity.decodeAtPc = ⟨.nop, 1, 1⟩ := by
    have hpc : s.opportunity.pc = 0x0038 := by rw [hs]; decide
    unfold State.decodeAtPc State.byteAhead
    rw [hpc, hr _ (by decide) (by decide), hr _ (by decide) (by decide), hr _ (by decide) (by decide), hr _ (by decide) (by decide)]
    decide
  refine ⟨s, s.opportunity.fetchNext.charge 4, ?_, by rw [hs], by rw [hs]; rfl, by rw [hs]; decide, by rw [hs], by rw [hs]⟩
  rcases step_cases s with ⟨h, -⟩ | ⟨-, e⟩
  · rw [hs] at h
    exact absurd h (by decide)
  · rw [e, hd]
    rfl

theorem witness_ShadowAndIndexWriters :
    after 0x08 { start with a := 1 } (fun t => decide (t.altA ≠ start.altA)) = some true ∧
    after 0xD9 { start with l := 1 } (fun t => decide (t.altL ≠ start.altL)) = some true ∧
    after 0x23DD start (fun t => decide (t.ix ≠ start.ix)) = some true ∧
    after 0x2DFD start (fun t => decide (t.iy ≠ start.iy)) = some true := by
  decide

theorem witness_HistoryGrowsByPortInstructions :
    after 0xFED3 start (fun t => t.events) = some [.output 0x00FE 0x00 0x8000] := by
  decide

theorem witness_WordReadIsLittleEndianAndWraps :
    let s := (start.poke 0xFFFF 0x34).poke 0x0000 0x12
    s.readByte 0xFFFF = 0x34 ∧ s.readByte 0x0000 = 0x12 := by
  decide

theorem witness_LoaderEffect :
    ∃ (s : State) (w : Snapshot), MemCanonical s ∧ w.bytes = [(0xFFFF, 1), (0x0000, 2), (0xFFFF, 3)] :=
  ⟨start,
    { a := 1, f := 2, b := 3, c := 4, d := 5, e := 6, h := 7, l := 8, altA := 9, altF := 10, altB := 11, altC := 12, altD := 13,
      altE := 14, altH := 15, altL := 16, ix := 17, iy := 18, sp := 19, pc := 20, i := 21, r := 22, iff1 := true, iff2 := false,
      im := .mode2, bytes := [(0xFFFF, 1), (0x0000, 2), (0xFFFF, 3)] },
    by rfl, rfl⟩

theorem witness_Add8AndSub8 :
    ∃ (s : State) (src : ByteForm) (v : Byte) (cf : Bool), v = src.value s ∧ cf = s.f.getLsbD 0 ∧ cf = true :=
  ⟨{ start with f := 0x01 }, .memXyd .ix 0x80, _, _, rfl, rfl, by decide⟩

theorem witness_LogicPrimitives : ∃ k, k < 8 ∧ k = 7 := ⟨7, by decide, rfl⟩

theorem witness_Adc16AndSbc16 :
    ∃ (s : State) (ss : Pair) (hl v : Word) (cf : Bool), hl = wordOf s.h s.l ∧ v = s.pair ss ∧ cf = s.f.getLsbD 0 ∧ cf = true :=
  ⟨{ start with f := 0x01 }, .sp, _, _, _, rfl, rfl, rfl, by decide⟩

/-- The one hypothesis of Stores, PushAndPop, Exchanges, ResAndSet and of the calls: memory in its canonical form, here with bytes at both
ends of the address space. -/
theorem witness_MemCanonical : MemCanonical ((start.poke 0xFFFF 1).poke 0x0000 2) := by rfl

theorem witness_AddAndAdc :
    ∃ s : State, s.f.getLsbD 0 = true ∧
      (AluOp.add = .add ∧ false = false ∨ AluOp.add = .adc ∧ false = s.f.getLsbD 0) ∧
      (AluOp.adc = .add ∧ true = false ∨ AluOp.adc = .adc ∧ true = s.f.getLsbD 0) :=
  ⟨{ start with f := 0x01 }, by decide, .inl ⟨rfl, rfl⟩, .inr ⟨rfl, by decide⟩⟩

theorem witness_SubSbcAndCp (k : AluOp) (h : k = .sub ∨ k = .sbc ∨ k = .cp) :
    ∃ (s : State) (cin : Bool),
      k = .sub ∧ cin = false ∨ k = .sbc ∧ cin = s.f.getLsbD 0 ∨ k = .cp ∧ cin = false := by
  rcases h with rfl | rfl | rfl
  · exact ⟨start, false, .inl ⟨rfl, rfl⟩⟩
  · exact ⟨{ start with f := 0x01 }, true, .inr (.inl ⟨rfl, by decide⟩)⟩
  · exact ⟨start, false, .inr (.inr ⟨rfl, rfl⟩)⟩

theorem witness_AndXorOr (k : AluOp) (h : k = .and ∨ k = .xor ∨ k = .or) :
    ∃ (s : State) (src : ByteForm) (r : Byte),
      k = .and ∧ r = s.a &&& src.value s ∨ k = .xor ∧ r = s.a ^^^ src.value s ∨ k = .or ∧ r = s.a ||| src.value s := by
  rcases h with rfl | rfl | rfl
  · exact ⟨start, .imm 0x0F, _, .inl ⟨rfl, rfl⟩⟩
  · exact ⟨start, .xyl .iy, _, .inr (.inl ⟨rfl, rfl⟩)⟩
  · exact ⟨start, .reg .a, _, .inr (.inr ⟨rfl, rfl⟩)⟩

theorem witness_IncDecMemory8 :
    let s := { start with ix := 0x0010 }.poke 0xFF90 0x7F
    MemCanonical s ∧ s.readByte ((PlaceForm.xyd .ix 0x80).address s) = 0x7F :=
  ⟨by rfl, by decide⟩

theorem witness_AdcSbcPair16 :
    ∃ (s : State) (ss : Pair) (hl v : Word) (cin : Bool), hl = wordOf s.h s.l ∧ v = s.pair ss ∧ cin = s.f.getLsbD 0 ∧
      hl = 0x8000 ∧ cin = true :=
  ⟨{ start with h := 0x80, f := 0x01 }, .hl, _, _, _, rfl, rfl, rfl, by decide, by decide⟩

theorem witness_RotateAccumulator (i : Instr) (h : i = .rlca ∨ i = .rrca ∨ i = .rla ∨ i = .rra) :
    ∃ (k : RotOp) (r : Byte) (out : Bool),
      (i = .rlca ∧ k = .rlc ∨ i = .rrca ∧ k = .rrc ∨ i = .rla ∧ k = .rl ∨ i = .rra ∧ k = .rr) ∧
      (r, out) = rotTable start.a (start.f.getLsbD 0) k := by
  rcases h with rfl | rfl | rfl | rfl
  · exact ⟨.rlc, _, _, .inl ⟨rfl, rfl⟩, rfl⟩
  · exact ⟨.rrc, _, _, .inr (.inl ⟨rfl, rfl⟩), rfl⟩
  · exact ⟨.rl, _, _, .inr (.inr (.inl ⟨rfl, rfl⟩)), rfl⟩
  · exact ⟨.rr, _, _, .inr (.inr (.inr ⟨rfl, rfl⟩)), rfl⟩

theorem witness_RotateRegister :
    ∃ (s : State) (r : Byte) (out : Bool), (r, out) = rotTable (s.reg8 .b) (s.f.getLsbD 0) .sls ∧ r = 0x01 ∧ out = true :=
  ⟨{ start with b := 0x80 }, 0x01, true, by decide, rfl, rfl⟩

theorem witness_RotateMemory :
    ∃ (s : State) (m : PlaceForm) (a : Word) (r : Byte) (out : Bool), MemCanonical s ∧ a = addOffset (s.xy .iy) 0x7F ∧
      (r, out) = rotTable (s.readByte a) (s.f.getLsbD 0) .rr ∧
      (r, out) = rotTable (s.readByte (m.address s)) (s.f.getLsbD 0) .rr :=
  ⟨start, .xyd .iy 0x7F, _, _, _, by rfl, rfl, rfl, rfl⟩

theorem witness_NibbleRotates :
    let s := { start with h := 0x90, a := 0x12 }.poke 0x9000 0x34
    MemCanonical s ∧ (0x34 : Byte) = s.readByte (wordOf s.h s.l) :=
  ⟨by rfl, by decide⟩

/-- The farthest jumps, backward over 0x0000 and forward over 0xFFFF. -/
theorem witness_Jumps :
    ((0xFF82 : Word).toNat : Int) = (({ start with pc := 0x0002 }.pc.toNat : Int) + (0x80 : Byte).toInt) % 65536 ∧
    ((0x0071 : Word).toNat : Int) = (({ start with pc := 0xFFF2 }.pc.toNat : Int) + (0x7F : Byte).toInt) % 65536 := by
  decide

theorem witness_CallsAndReturns :
    MemCanonical start ∧ condHolds { start with f := 0x40 }.f .z = true ∧ condHolds start.f .z = false :=
  ⟨by rfl, by decide, by decide⟩

theorem witness_BlockTransferAndCompareStep (dir : BlockDir) :
    ∃ (s : State) (i j : Instr) (bc : Word) (r : Byte), MemCanonical s ∧ (i = .ldi ∧ dir = .up ∨ i = .ldd ∧ dir = .down) ∧
      (j = .cpi ∧ dir = .up ∨ j = .cpd ∧ dir = .down) ∧ bc = wordOf s.b s.c - 1 ∧ r = s.a - s.readByte (wordOf s.h s.l) ∧
      bc = 0 := by
  cases dir
  · exact ⟨{ start with c := 1 }, .ldi, .cpi, _, _, by rfl, .inl ⟨rfl, rfl⟩, .inl ⟨rfl, rfl⟩, rfl, rfl, by decide⟩
  · exact ⟨{ start with c := 1 }, .ldd, .cpd, _, _, by rfl, .inr ⟨rfl, rfl⟩, .inr ⟨rfl, rfl⟩, rfl, rfl, by decide⟩

theorem witness_BlockPortStep :
    ∃ (s : State) (v m : Byte) (g : Flags), MemCanonical s ∧ v = readsFromPort s (wordOf s.b s.c) ∧
      m = s.readByte (wordOf s.h s.l) ∧
      g = { s.flags with z := decide (s.b - 1 = 0), n := true, c := Config.ioBlockCarry } ∧ s.b - 1 = 0 :=
  ⟨{ start with b := 1 }, _, _, _, by rfl, rfl, rfl, rfl, by decide⟩

/-- One turn that ends the form, one that stops at the checkpoint and one that goes on. -/
theorem witness_RepeatForms :
    ({ start with c := 1 }.ldStep .up).ldEnded = true ∧ ({ start with c := 2 }.ldStep .up).ldEnded = false ∧
    (0 : Int) ≤ { start with budget := -21 }.budget + 21 ∧
    ¬ (0 : Int) ≤ { start with budget := -22 }.budget + 21 := by
  decide

theorem witness_RepeatFormsEnd (i : Instr) (h : i = .ldir ∨ i = .cpdr ∨ i = .otir) :
    ∃ done : State → Bool,
      ((i = .ldir ∨ i = .lddr) ∧ done = (fun t => wordOf t.b t.c == 0) ∨
       (i = .cpir ∨ i = .cpdr) ∧ done = (fun t => wordOf t.b t.c == 0 || t.f.getLsbD 6) ∨
       (i = .inir ∨ i = .indr ∨ i = .otir ∨ i = .otdr) ∧ done = (fun t => t.b == 0)) := by
  rcases h with rfl | rfl | rfl
  · exact ⟨_, .inl ⟨.inl rfl, rfl⟩⟩
  · exact ⟨_, .inr (.inl ⟨.inr rfl, rfl⟩)⟩
  · exact ⟨_, .inr (.inr ⟨.inr (.inr (.inl rfl)), rfl⟩)⟩

/-- Three bytes from 0x9000 to 0xA000; one byte downward, where the budget need only be negative; and all 65536 bytes with DE = HL + 1. -/
theorem witness_LdirCopiesBlock :
    (let s := { start with h := 0x90, d := 0xA0, c := 3 }
     MemCanonical s ∧ 3 = (if wordOf s.b s.c = 0 then 65536 else (wordOf s.b s.c).toNat) ∧ s.budget + 21 * ((3 : Nat) - 1 : Int) < 0 ∧
     (∀ j k, j < 3 → k < 3 → BlockDir.up.ahead (wordOf s.h s.l) j ≠ BlockDir.up.ahead (wordOf s.d s.e) k)) ∧
    (let s := { start with h := 0x90, d := 0xA0, c := 1, budget := -1 }
     MemCanonical s ∧ 1 = (if wordOf s.b s.c = 0 then 65536 else (wordOf s.b s.c).toNat) ∧ s.budget + 21 * ((1 : Nat) - 1 : Int) < 0 ∧
     (∀ j k, j < 1 → k < 1 → BlockDir.down.ahead (wordOf s.h s.l) j ≠ BlockDir.down.ahead (wordOf s.d s.e) k)) ∧
    (let s := { start with h := 0x90, d := 0x90, e := 0x01, budget := -1376236 }
     MemCanonical s ∧ 65536 = (if wordOf s.b s.c = 0 then 65536 else (wordOf s.b s.c).toNat) ∧
     s.budget + 21 * ((65536 : Nat) - 1 : Int) < 0 ∧ wordOf s.d s.e = BlockDir.up.ahead (wordOf s.h s.l) 1) := by
  refine ⟨⟨by rfl, by decide, by decide, ?_⟩, ⟨by rfl, by decide, by decide, ?_⟩, ⟨by rfl, by decide, by decide, by decide⟩⟩
  · intro j k hj hk
    match j, k, hj, hk with
    | 0, 0, _, _ | 0, 1, _, _ | 0, 2, _, _ | 1, 0, _, _ | 1, 1, _, _ | 1, 2, _, _ | 2, 0, _, _ | 2, 1, _, _ | 2, 2, _, _ => decide
  · intro j k hj hk
    obtain rfl : j = 0 := by omega
    obtain rfl : k = 0 := by omega
    decide

/-- A match at the first byte, and one at the last. -/
theorem witness_CpirFindsFirstMatch :
    (let s := { start with h := 0x90, c := 2, a := 0x33, budget := -1 }.poke 0x9000 0x33
     2 = (if wordOf s.b s.c = 0 then 65536 else (wordOf s.b s.c).toNat) ∧ 0 < 2 ∧
     s.readByte (BlockDir.up.ahead (wordOf s.h s.l) 0) = s.a ∧
     (∀ j < 0, s.readByte (BlockDir.up.ahead (wordOf s.h s.l) j) ≠ s.a) ∧ s.budget + 21 * ((0 : Nat) : Int) < 0 ∧
     (1 : Word) = wordOf s.b s.c - BitVec.ofNat 16 1) ∧
    (let s := { start with h := 0x90, c := 2, a := 0x33 }.poke 0x8FFF 0x33
     2 = (if wordOf s.b s.c = 0 then 65536 else (wordOf s.b s.c).toNat) ∧ 1 < 2 ∧
     s.readByte (BlockDir.down.ahead (wordOf s.h s.l) 1) = s.a ∧
     (∀ j < 1, s.readByte (BlockDir.down.ahead (wordOf s.h s.l) j) ≠ s.a) ∧ s.budget + 21 * ((1 : Nat) : Int) < 0 ∧
     (0 : Word) = wordOf s.b s.c - BitVec.ofNat 16 2) := by
  refine ⟨⟨by decide, by decide, by decide, by omega, by decide, by decide⟩,
    ⟨by decide, by decide, by decide, ?_, by decide, by decide⟩⟩
  intro j hj
  obtain rfl : j = 0 := by omega
  decide

theorem witness_PortInputAndOutput :
    ∃ (s : State) (v : Byte) (g : Flags), v = readsFromPort s (wordOf s.b s.c) ∧ Mirrors g v ∧ g.h = false ∧ g.pv = evenParity v ∧
      g.n = false ∧ g.c = s.f.getLsbD 0 :=
  ⟨start, readsFromPort start (wordOf start.b start.c),
    { s := decide (128 ≤ (readsFromPort start (wordOf start.b start.c)).toNat),
      z := decide (readsFromPort start (wordOf start.b start.c) = 0),
      f5 := (readsFromPort start (wordOf start.b start.c)).getLsbD 5, h := false,
      f3 := (readsFromPort start (wordOf start.b start.c)).getLsbD 3,
      pv := evenParity (readsFromPort start (wordOf start.b start.c)), n := false, c := start.f.getLsbD 0 },
    rfl, ⟨rfl, rfl, rfl, rfl⟩, rfl, rfl, rfl, rfl⟩

theorem witness_HaltWaits :
    { start with budget := -1 }.budget < 0 ∧
    (∀ b : Int, b = 22 ∨ b = -1 →
      { start with halted := true, budget := b }.halted = true ∧ { start with halted := true, budget := b }.iff1 = false ∧
      BudgetInFrame { start with halted := true, budget := b }) := by
  refine ⟨by decide, fun b hb => ⟨rfl, rfl, ?_, ?_⟩⟩ <;> (simp only [Config.frameCycles]; omega)

theorem witness_InterruptOpportunity :
    ∃ (P : Params) (s s' s'' o : State), MemCanonical s ∧ 0 ≤ s.budget ∧ s.iff1 = true ∧ o = s.opportunity P ∧ s.im = .mode2 ∧
      P.vectorByte = 0x00 ∧ 0 ≤ s'.budget ∧ s'.iff1 = false ∧ s''.budget < 0 :=
  ⟨{ Params.default with vectorByte := 0x00 }, { start with budget := 0, iff1 := true, im := .mode2 }, { start with budget := 0 },
    { start with budget := -1 }, _, by rfl, by decide, rfl, rfl, rfl, rfl, by decide, rfl, by decide⟩

/-- Settings other than the default, and operands for the copies. -/
theorem witness_ParameterSettings :
    ∃ (P : Params) (s : State) (x : IdxReg) (d : Byte) (q : Reg8) (b : Fin 8) (i j : Instr) (r : Byte),
      MemCanonical s ∧ P.ixcbRegCopy = false ∧ P.add16Szpv = true ∧ P.retiRestoresIff1 = true ∧ P.blockRMode = .refetch ∧
      hasTableCost i = true ∧
      i = x.pick (.setBMemIxdR b d q) (.setBMemIydR b d q) ∧ j = x.pick (.setBMemIxd b d) (.setBMemIyd b d) ∧
      (∀ m : Fin 8, r.getLsbD m = if m = b then true else (s.readByte (addOffset (s.xy x) d)).getLsbD m) :=
  ⟨{ vectorByte := 0x00, blockRMode := .refetch, ixcbRegCopy := false, add16Szpv := true, retiRestoresIff1 := true,
     cycles := fun _ => .always 1 }, start, .iy, 0x80, .h, 7, _, _, 0x80, by rfl, rfl, rfl, rfl, rfl, rfl, rfl, rfl, by decide⟩

end Sys2Proof.Machine.Tests
end

section
/-! SUPPORT and PROOFS. The machine under every setting of its parameters (00_scope.md R6; log 7): which rows a context selects, where an
instruction ends, the repeat loop under either `BLOCK_R_MODE`, and what each other parameter changes. Settles O60. -/

namespace Sys2Proof.Machine

/-! ## No context selects a decode transition (30_encoding.md R71) -/

/-- The rows that are decode transitions (30_encoding.md R71). -/
def isTransition : Instr → Bool
  | .prefixCb | .prefixEd | .prefixDd | .prefixFd | .prefixDdCb | .prefixFdCb => true
  | _ => false

theorem execWith_of_not_transition {i : Instr} (h : isTransition i = false) (P : Params) (s : State) :
    execWith P i s = execSelected i s P := by
  cases i <;> cases h <;> rfl

theorem isTransition_decodeBitOps (op : Byte) : isTransition (decodeBitOps op).instr = false := by
  unfold decodeBitOps
  dsimp only
  split
  · cases rotOfField (opY op) <;> rfl
  · cases rotOfField (opY op) <;> rfl
  all_goals rfl

theorem isTransition_decodeExtended (op n1 n2 : Byte) : isTransition (decodeExtended op n1 n2).instr = false := by
  unfold decodeExtended decodeExtended1 decodeExtended2
  dsimp only
  repeat' split
  all_goals rfl

theorem isTransition_decodeIndexedBitOps (x : IdxReg) (d op : Byte) :
    isTransition (decodeIndexedBitOps x d op).instr = false := by
  unfold decodeIndexedBitOps
  dsimp only
  split
  · cases rotOfField (opY op) <;> cases x <;> rfl
  · cases rotOfField (opY op) <;> cases x <;> rfl
  all_goals cases x <;> rfl

theorem isTransition_decodeIndexed (x : IdxReg) (op n1 n2 : Byte) :
    isTransition (decodeIndexed x op n1 n2).instr = false := by
  unfold decodeIndexed
  split
  · unfold decodeIndexed0
    dsimp only
    split <;> cases x <;> rfl
  · unfold decodeIndexed1
    repeat' split
    all_goals cases x <;> rfl
  · unfold decodeIndexed2
    dsimp only
    split
    iterate 3 cases aluOfField (opY op) <;> cases x <;> rfl
    all_goals cases x <;> rfl
  · unfold decodeIndexed3
    split
    case h_6 => exact isTransition_decodeIndexedBitOps x n1 n2
    all_goals cases x <;> rfl

/-! ## The updates leave the budget alone: it is charged at the end (60_exceptions.md R351) -/

@[simp] theorem State.alu_budget (s : State) (k : AluOp) (v : Byte) : (s.alu k v).budget = s.budget := by cases k <;> rfl
@[simp] theorem State.modifyMem_budget (s : State) (a : Word) (p : Byte × Flags) : (s.modifyMem a p).budget = s.budget := rfl
@[simp] theorem State.rotAcc_budget (s : State) (k : RotOp) : (s.rotAcc k).budget = s.budget := rfl
@[simp] theorem State.rotReg_budget (s : State) (k : RotOp) (q : Reg8) : (s.rotReg k q).budget = s.budget :=
  s.setReg8_budget q _
@[simp] theorem State.rotMem_budget (s : State) (k : RotOp) (a : Word) : (s.rotMem k a).budget = s.budget := rfl
@[simp] theorem State.copyResult_budget (s : State) (copy : Bool) (q : Reg8) (v : Byte) :
    (s.copyResult copy q v).budget = s.budget := by
  cases copy
  · rfl
  · exact s.setReg8_budget q v
@[simp] theorem State.rotMemCopy_budget (s : State) (copy : Bool) (k : RotOp) (a : Word) (q : Reg8) :
    (s.rotMemCopy copy k a q).budget = s.budget := State.copyResult_budget _ copy q _
@[simp] theorem State.writeCopy_budget (s : State) (copy : Bool) (a : Word) (q : Reg8) (v : Byte) :
    (s.writeCopy copy a q v).budget = s.budget := State.copyResult_budget _ copy q v
@[simp] theorem State.setXyh_budget (s : State) (x : IdxReg) (v : Byte) : (s.setXyh x v).budget = s.budget := s.setXy_budget x _
@[simp] theorem State.setXyl_budget (s : State) (x : IdxReg) (v : Byte) : (s.setXyl x v).budget = s.budget := s.setXy_budget x _
@[simp] theorem State.retiWith_budget (s : State) (b : Bool) : (s.retiWith b).budget = s.budget := rfl
@[simp] theorem State.ldStep_budget (s : State) (dir : BlockDir) : (s.ldStep dir).budget = s.budget := rfl
@[simp] theorem State.cpStep_budget (s : State) (dir : BlockDir) : (s.cpStep dir).budget = s.budget := rfl
@[simp] theorem State.inStep_budget (s : State) (carry : Bool) (dir : BlockDir) : (s.inStep carry dir).budget = s.budget := rfl
@[simp] theorem State.outStep_budget (s : State) (carry : Bool) (dir : BlockDir) : (s.outStep carry dir).budget = s.budget := rfl

/-- An instruction with a table cost reaches its end `u` with the budget untouched, under every CycleTable and `BLOCK_R_MODE` the same
`u`; only then is its entry charged. -/
theorem execSelected_finishes {i : Instr} (h : hasTableCost i = true) (P : Params) (s : State) :
    ∃ taken u, u.budget = s.budget ∧ execSelected i s P = finishBranch P i taken u ∧
      ∀ table mode, execSelected i s { P with cycles := table, blockRMode := mode } =
        finishBranch { P with cycles := table, blockRMode := mode } i taken u := by
  cases i <;> cases h <;> refine ⟨_, _, ?_, rfl, fun _ _ => rfl⟩ <;> simp [apply_ite State.budget]

/-! ## Counting R and the iterations -/

theorem and_0x80_toNat (r : Byte) : (r &&& 0x80).toNat = 2 ^ 7 * (r.toNat / 128) := by revert r; decide

/-- The refresh register as a number: bit 7 is kept, the low seven bits count (10_state.md R33). -/
theorem bumpR_toNat (r : Byte) (n : Nat) : (bumpR r n).toNat = 128 * (r.toNat / 128) + (r.toNat % 128 + n) % 128 := by
  have hlow : (r.toNat % 128 + n) % 128 < 2 ^ 7 := Nat.mod_lt _ (by decide)
  have hbyte : (r.toNat % 128 + n) % 128 % 2 ^ 8 = (r.toNat % 128 + n) % 128 := by omega
  rw [bumpR, BitVec.toNat_or, and_0x80_toNat, BitVec.toNat_ofNat, hbyte, ← Nat.two_pow_add_eq_or_of_lt hlow]

theorem bumpR_bumpR (r : Byte) (m n : Nat) : bumpR (bumpR r m) n = bumpR r (m + n) := by
  apply BitVec.eq_of_toNat_eq
  simp only [bumpR_toNat]
  omega

theorem iterations16_pos (w : Word) : 0 < iterations16 w := by
  unfold iterations16
  split
  · decide
  · bv_omega

theorem iterations16_pred_lt {w : Word} (h : w - 1 ≠ 0) : iterations16 (w - 1) < iterations16 w := by
  unfold iterations16
  rw [if_neg h]
  split <;> bv_omega

theorem iterations8_pos (v : Byte) : 0 < iterations8 v := by
  unfold iterations8
  split
  · decide
  · bv_omega

theorem iterations8_pred_lt {v : Byte} (h : v - 1 ≠ 0) : iterations8 (v - 1) < iterations8 v := by
  unfold iterations8
  rw [if_neg h]
  split <;> bv_omega

/-! ## The repeat loop does not look at R (47_block.md R308) -/

/-- The state with another value of R. -/
def State.setR (s : State) (x : Byte) : State := { s with r := x }

@[simp] theorem State.setR_budget (s : State) (x : Byte) : (s.setR x).budget = s.budget := rfl
theorem State.incR_setR (s : State) (x : Byte) (n : Nat) : (s.setR x).incR n = s.setR (bumpR x n) := rfl

/-- PC back at the first byte of a block instruction: the checkpoint of R308. -/
def State.rewindPc (s : State) : State := { s with pc := s.pc - 2 }

@[simp] theorem State.rewindPc_pc (s : State) : s.rewindPc.pc = s.pc - 2 := rfl
@[simp] theorem State.rewindPc_budget (s : State) : s.rewindPc.budget = s.budget := rfl

/-- What the loop of R308 needs of an iteration: it leaves PC and the budget alone, neither it nor the test for the end looks
at R, and an iteration after which the form goes on has counted down. -/
structure RepeatBody (body : State → State) (ended : State → Bool) (count : State → Nat) : Prop where
  pc : ∀ s, (body s).pc = s.pc
  budget : ∀ s, (body s).budget = s.budget
  body_setR : ∀ s x, body (s.setR x) = (body s).setR x
  ended_setR : ∀ s x, ended (s.setR x) = ended s
  count_pos : ∀ s, 0 < count s
  count_lt : ∀ s, ended (body s) = false → count (body s) < count s

theorem State.ldStep_bc (s : State) (dir : BlockDir) : (s.ldStep dir).bc = s.bc - 1 := wordOf_hiByte_loByte (s.bc - 1)
theorem State.cpStep_bc (s : State) (dir : BlockDir) : (s.cpStep dir).bc = s.bc - 1 := wordOf_hiByte_loByte (s.bc - 1)

theorem State.bc_ne_zero_of_not_ldEnded {s : State} (h : s.ldEnded = false) : s.bc ≠ 0 := beq_eq_false_iff_ne.1 h
theorem State.bc_ne_zero_of_not_cpEnded {s : State} (h : s.cpEnded = false) : s.bc ≠ 0 :=
  beq_eq_false_iff_ne.1 (Bool.or_eq_false_iff.1 h).1
theorem State.b_ne_zero_of_not_ioEnded {s : State} (h : s.ioEnded = false) : s.b ≠ 0 := beq_eq_false_iff_ne.1 h

theorem ldStep_repeatBody (dir : BlockDir) : RepeatBody (·.ldStep dir) State.ldEnded (iterations16 ·.bc) where
  pc _ := rfl
  budget _ := rfl
  body_setR _ _ := rfl
  ended_setR _ _ := rfl
  count_pos s := iterations16_pos s.bc
  count_lt s h := by
    have hbc := State.bc_ne_zero_of_not_ldEnded h
    rw [State.ldStep_bc] at hbc ⊢
    exact iterations16_pred_lt hbc

theorem cpStep_repeatBody (dir : BlockDir) : RepeatBody (·.cpStep dir) State.cpEnded (iterations16 ·.bc) where
  pc _ := rfl
  budget _ := rfl
  body_setR _ _ := rfl
  ended_setR _ _ := rfl
  count_pos s := iterations16_pos s.bc
  count_lt s h := by
    have hbc := State.bc_ne_zero_of_not_cpEnded h
    rw [State.cpStep_bc] at hbc ⊢
    exact iterations16_pred_lt hbc

theorem inStep_repeatBody (carry : Bool) (dir : BlockDir) :
    RepeatBody (·.inStep carry dir) State.ioEnded (iterations8 ·.b) where
  pc _ := rfl
  budget _ := rfl
  body_setR _ _ := rfl
  ended_setR _ _ := rfl
  count_pos s := iterations8_pos s.b
  count_lt _ h := iterations8_pred_lt (State.b_ne_zero_of_not_ioEnded h)

theorem outStep_repeatBody (carry : Bool) (dir : BlockDir) :
    RepeatBody (·.outStep carry dir) State.ioEnded (iterations8 ·.b) where
  pc _ := rfl
  budget _ := rfl
  body_setR _ _ := rfl
  ended_setR _ _ := rfl
  count_pos s := iterations8_pos s.b
  count_lt _ h := iterations8_pred_lt (State.b_ne_zero_of_not_ioEnded h)

/-- `u` is where PC and the budget of a repeat form stand after `k + 1` iterations from `s`, with `total` cycles charged
before: at the end, or at the checkpoint. -/
def RepeatStops (s u : State) (total k : Nat) : Prop :=
  (u.pc = s.pc ∧ u.budget = s.budget + total + (21 * (k : Int) + 16)) ∨
  (u.pc = s.pc - 2 ∧ u.budget = s.budget + total + 21 * ((k : Int) + 1))

/-- An iteration that another follows goes before the others. -/
theorem RepeatStops.succ {s t u : State} {total k : Nat} (h : RepeatStops t u (total + 21) k) (hpc : t.pc = s.pc)
    (hbudget : t.budget = s.budget) : RepeatStops s u total (k + 1) := by
  rw [RepeatStops, hpc, hbudget] at h
  obtain ⟨hu, hub⟩ | ⟨hu, hub⟩ := h
  · exact .inl ⟨hu, by omega⟩
  · exact .inr ⟨hu, by omega⟩

/-- By how much `k + 1` iterations advance R. -/
def repeatRefresh (mode : BlockRMode) (first : Bool) (k : Nat) : Nat := blockIncR mode first + k * blockIncR mode false

theorem repeatRefresh_true (mode : BlockRMode) (k : Nat) : repeatRefresh mode true k = blockRefresh mode (k + 1) := by
  cases mode <;> simp only [repeatRefresh, blockRefresh, blockIncR] <;> omega

theorem repeatRefresh_zero (mode : BlockRMode) (first : Bool) : repeatRefresh mode first 0 = blockIncR mode first := by
  rw [repeatRefresh, Nat.zero_mul, Nat.add_zero]

theorem repeatRefresh_succ (mode : BlockRMode) (first : Bool) (k : Nat) :
    repeatRefresh mode first (k + 1) = blockIncR mode first + repeatRefresh mode false k := by
  simp only [repeatRefresh]
  ring

section RepeatLoop
variable {body : State → State} {ended : State → Bool} {count : State → Nat}

/-- One turn of the loop from `s` with another value of R. -/
theorem repeatLoop_succ_setR (hb : RepeatBody body ended count) (mode : BlockRMode) (fuel total : Nat) (first : Bool) (s : State)
    (x : Byte) :
    repeatLoop blockCosts mode body ended (fuel + 1) first total (s.setR x) =
      if ended (body s) then ((body s).charge (total + 16)).setR (bumpR x (blockIncR mode first))
      else if 0 ≤ (body s).budget + ((total + 21 : Nat) : Int) then
        ((body s).rewindPc.charge (total + 21)).setR (bumpR x (blockIncR mode first))
      else repeatLoop blockCosts mode body ended fuel false (total + 21) ((body s).setR (bumpR x (blockIncR mode first))) := by
  rw [repeatLoop_succ, State.incR_setR, hb.body_setR]
  dsimp only
  rw [hb.ended_setR]
  rfl

/-- The loop stops after some number of iterations, which neither R nor `BLOCK_R_MODE` changes; they change R alone. -/
theorem repeatLoop_stops (hb : RepeatBody body ended count) (fuel : Nat) :
    ∀ (total : Nat) (first : Bool) (s : State), count s ≤ fuel →
      ∃ k u, RepeatStops s u total k ∧ ∀ mode x,
        repeatLoop blockCosts mode body ended fuel first total (s.setR x) = u.setR (bumpR x (repeatRefresh mode first k)) := by
  induction fuel with
  | zero =>
    intro _ _ s hfuel
    have hpos := hb.count_pos s
    omega
  | succ fuel ih =>
    intro total first s hfuel
    have hpc := hb.pc s
    have hbudget := hb.budget s
    by_cases hend : ended (body s) = true
    · refine ⟨0, (body s).charge (total + 16), .inl ⟨hpc, ?_⟩, fun mode x => ?_⟩
      · rw [State.charge_budget]
        omega
      · rw [repeatLoop_succ_setR hb, if_pos hend, repeatRefresh_zero]
    · by_cases hcheck : 0 ≤ (body s).budget + ((total + 21 : Nat) : Int)
      · refine ⟨0, (body s).rewindPc.charge (total + 21), .inr ⟨?_, ?_⟩, fun mode x => ?_⟩
        · rw [State.charge_pc, State.rewindPc_pc, hpc]
        · rw [State.charge_budget, State.rewindPc_budget]
          omega
        · rw [repeatLoop_succ_setR hb, if_neg hend, if_pos hcheck, repeatRefresh_zero]
      · have hlt := hb.count_lt s (Bool.eq_false_of_not_eq_true hend)
        obtain ⟨k, u, hstop, hloop⟩ := ih (total + 21) false (body s) (by omega)
        refine ⟨k + 1, u, hstop.succ hpc hbudget, fun mode x => ?_⟩
        rw [repeatLoop_succ_setR hb, if_neg hend, if_neg hcheck, hloop, bumpR_bumpR, repeatRefresh_succ]

/-- `run mode` is a repeat form from `s` under `BLOCK_R_MODE` = `mode`: R, by what R308 says, is all that the mode changes. -/
def StopsAlike (s : State) (run : BlockRMode → State) : Prop :=
  ∃ k u, RepeatStops s u 0 k ∧ ∀ mode, run mode = u.setR (bumpR s.r (blockRefresh mode (k + 1)))

theorem repeatLoop_stopsAlike (hb : RepeatBody body ended count) (s : State) :
    StopsAlike s fun mode => repeatLoop blockCosts mode body ended (count s) true 0 s := by
  obtain ⟨k, u, hstop, hloop⟩ := repeatLoop_stops hb (count s) 0 true s (Nat.le_refl _)
  exact ⟨k, u, hstop, fun mode => repeatRefresh_true mode k ▸ hloop mode s.r⟩

end RepeatLoop

theorem StopsAlike.setPvFromB {s : State} {run : BlockRMode → State} (h : StopsAlike s run) :
    StopsAlike s fun mode => (run mode).setPvFromB := by
  obtain ⟨k, u, hstop, hrun⟩ := h
  exact ⟨k, u.setPvFromB, hstop, fun mode => congrArg State.setPvFromB (hrun mode)⟩

theorem ldRepeat_stopsAlike (s : State) (dir : BlockDir) : StopsAlike s (s.ldRepeat blockCosts · dir) :=
  repeatLoop_stopsAlike (ldStep_repeatBody dir) s

theorem cpRepeat_stopsAlike (s : State) (dir : BlockDir) : StopsAlike s (s.cpRepeat blockCosts · dir) :=
  repeatLoop_stopsAlike (cpStep_repeatBody dir) s

theorem inRepeat_stopsAlike (s : State) (carry : Bool) (dir : BlockDir) :
    StopsAlike s (s.inRepeat carry blockCosts · dir) :=
  (repeatLoop_stopsAlike (inStep_repeatBody carry dir) s).setPvFromB

theorem outRepeat_stopsAlike (s : State) (carry : Bool) (dir : BlockDir) :
    StopsAlike s (s.outRepeat carry blockCosts · dir) :=
  (repeatLoop_stopsAlike (outStep_repeatBody carry dir) s).setPvFromB

/-- The repeat forms (47_block.md R309 to R316). -/
def repeatForms : List Instr := [.ldir, .lddr, .cpir, .cpdr, .inir, .indr, .otir, .otdr]

theorem execSelected_repeats {i : Instr} (hi : i ∈ repeatForms) (s : State) :
    ∃ run, StopsAlike s run ∧ ∀ P, execSelected i s P = .next (run P.blockRMode) := by
  simp only [repeatForms, List.mem_cons, List.not_mem_nil, or_false] at hi
  rcases hi with rfl | rfl | rfl | rfl | rfl | rfl | rfl | rfl
  · exact ⟨_, ldRepeat_stopsAlike s .up, fun _ => rfl⟩
  · exact ⟨_, ldRepeat_stopsAlike s .down, fun _ => rfl⟩
  · exact ⟨_, cpRepeat_stopsAlike s .up, fun _ => rfl⟩
  · exact ⟨_, cpRepeat_stopsAlike s .down, fun _ => rfl⟩
  · exact ⟨_, inRepeat_stopsAlike s Config.ioBlockCarry .up, fun _ => rfl⟩
  · exact ⟨_, inRepeat_stopsAlike s Config.ioBlockCarry .down, fun _ => rfl⟩
  · exact ⟨_, outRepeat_stopsAlike s Config.ioBlockCarry .up, fun _ => rfl⟩
  · exact ⟨_, outRepeat_stopsAlike s Config.ioBlockCarry .down, fun _ => rfl⟩

/-! ## The settings change what they name, and no more -/

/-- The answer of `run` at `P` is a next state, of which the CycleTable decides the budget alone and `BLOCK_R_MODE` R alone. -/
def SettingsFrame (run : Params → Answer) (P : Params) : Prop :=
  ∃ t, run P = .next t ∧
    (∀ table, ∃ u, run { P with cycles := table } = .next u ∧ u = { t with budget := u.budget }) ∧
    (∀ mode, ∃ u, run { P with blockRMode := mode } = .next u ∧ u = { t with r := u.r })

theorem hasTableCost_or_halt_or_repeats {i : Instr} (h : isTransition i = false) :
    hasTableCost i = true ∨ i = .halt ∨ i ∈ repeatForms := by
  revert h
  cases i <;> simp [isTransition, hasTableCost, repeatForms]

theorem execSelected_settingsFrame {i : Instr} (h : isTransition i = false) (s : State) (P : Params) :
    SettingsFrame (execSelected i s ·) P := by
  obtain hcost | rfl | hrep := hasTableCost_or_halt_or_repeats h
  · obtain ⟨taken, u, -, hP, hQ⟩ := execSelected_finishes hcost P s
    exact ⟨_, hP, fun table => ⟨_, hQ table P.blockRMode, rfl⟩, fun mode => ⟨_, hQ P.cycles mode, rfl⟩⟩
  · exact ⟨_, rfl, fun _ => ⟨_, rfl, rfl⟩, fun _ => ⟨_, rfl, rfl⟩⟩
  · obtain ⟨run, ⟨k, u, -, hrun⟩, hexec⟩ := execSelected_repeats hrep s
    refine ⟨_, hexec P, fun table => ⟨_, hexec _, rfl⟩, fun mode => ⟨_, hexec _, ?_⟩⟩
    rw [hrun, hrun]
    rfl

/-- A transition runs the row it selects, which is no transition. -/
theorem execWith_settingsFrame (i : Instr) (s : State) (P : Params) : SettingsFrame (execWith · i s) P := by
  cases hi : isTransition i
  · simpa only [execWith_of_not_transition hi] using execSelected_settingsFrame hi s P
  · cases i <;> cases hi
    · exact execSelected_settingsFrame (isTransition_decodeBitOps _) _ P
    · exact execSelected_settingsFrame (isTransition_decodeExtended _ _ _) _ P
    · exact execSelected_settingsFrame (isTransition_decodeIndexed _ _ _ _) _ P
    · exact execSelected_settingsFrame (isTransition_decodeIndexed _ _ _ _) _ P
    · exact execSelected_settingsFrame (isTransition_decodeIndexedBitOps _ _ _) _ P
    · exact execSelected_settingsFrame (isTransition_decodeIndexedBitOps _ _ _) _ P

theorem execWith_tableCost {i : Instr} (h : hasTableCost i = true) {P : Params} {s t : State} (ht : execWith P i s = .next t) :
    ∃ taken, t.budget = s.budget + (P.cycles i).cost taken := by
  have hi : isTransition i = false := by revert h; cases i <;> simp [hasTableCost, isTransition]
  obtain ⟨taken, u, hbudget, hP, -⟩ := execSelected_finishes h P s
  rw [execWith_of_not_transition hi, hP, finishBranch_eq] at ht
  cases ht
  exact ⟨taken, by rw [State.charge_budget, hbudget]⟩

theorem execWith_repeatForm {i : Instr} (hi : i ∈ repeatForms) (P : Params) (s : State) :
    ∃ t, ∃ n ≥ 1, execWith P i s = .next t ∧ t.r = bumpR s.r (blockRefresh P.blockRMode n) ∧
      (t.pc = s.pc ∧ t.budget = s.budget + 21 * ((n : Int) - 1) + 16 ∨
       t.pc = s.pc - 2 ∧ t.budget = s.budget + 21 * (n : Int)) := by
  have hnot : isTransition i = false := (by decide : ∀ j ∈ repeatForms, isTransition j = false) i hi
  obtain ⟨run, ⟨k, u, hstop, hrun⟩, hexec⟩ := execSelected_repeats hi s
  refine ⟨_, k + 1, by omega, (execWith_of_not_transition hnot P s).trans ((hexec P).trans (congrArg _ (hrun _))), rfl, ?_⟩
  obtain ⟨hpc, hbudget⟩ | ⟨hpc, hbudget⟩ := hstop
  · exact .inl ⟨hpc, by rw [State.setR_budget, hbudget]; push_cast; omega⟩
  · exact .inr ⟨hpc, by rw [State.setR_budget, hbudget]; push_cast; omega⟩

/-! ## ADD HL,ss and ADD XY,pp (40_alu.md R114) -/

/-- The flags at either setting of `ADD16_SZPV`, in terms of the result. -/
theorem add16_flags (szpv : Bool) (a v : Word) (g : Flags) :
    (add16 szpv a v g).2 = { g with
      h := decide (0xFFF < a.toNat % 4096 + v.toNat % 4096), n := false, c := decide (0xFFFF < a.toNat + v.toNat)
      f5 := (a + v).getLsbD 13, f3 := (a + v).getLsbD 11
      s := if szpv = true then (a + v).getLsbD 15 else g.s
      z := if szpv = true then decide (a + v = 0) else g.z
      pv := if szpv = true then decide (a.getLsbD 15 = v.getLsbD 15 ∧ (a + v).getLsbD 15 ≠ a.getLsbD 15) else g.pv } := by
  cases szpv
  · rfl
  · rw [Bool.decide_and, decide_not]
    rfl

/-! ## The indexed copies (45_rotate_bit.md R261 to R265) -/

/-- A bit shifted in at the low end. -/
theorem shiftLeft_in (v : Byte) (b : Bool) :
    BitVec.ofNat 8 (v.toNat * 2 + b.toNat) = v.extractLsb' 0 7 ++ BitVec.ofBool b := by
  revert v b; decide

/-- A bit shifted in at the high end. -/
theorem shiftRight_in (v : Byte) (b : Bool) :
    BitVec.ofNat 8 (v.toNat / 2 + 128 * b.toNat) = BitVec.ofBool b ++ v.extractLsb' 1 7 := by
  revert v b; decide

theorem extractLsb'_one (v : Byte) (k : Nat) : v.extractLsb' k 1 = BitVec.ofBool (v.getLsbD k) := by
  apply BitVec.eq_of_getLsbD_eq
  intro i hi
  obtain rfl : i = 0 := by omega
  simp

theorem rotResult_eq_rotTable (k : RotOp) (v : Byte) (cin : Bool) : rotResult k v cin = rotTable v cin k := by
  cases k <;> simp only [rotResult, rotTable, shiftLeft_in, shiftRight_in, extractLsb'_one] <;> rfl

/-- The bits of SET and RES (40_alu.md R113). -/
theorem getLsbD_set8 (b m : Fin 8) (v : Byte) : (set8 b v).getLsbD m = if m = b then true else v.getLsbD m := by
  rw [set8, BitVec.getLsbD_or, BitVec.getLsbD_ofNat, Nat.testBit_two_pow, decide_eq_true m.isLt, Bool.true_and]
  by_cases h : m = b
  · simp [h]
  · simp [h, Fin.val_ne_of_ne (Ne.symm h)]

theorem getLsbD_res8 (b m : Fin 8) (v : Byte) : (res8 b v).getLsbD m = if m = b then false else v.getLsbD m := by
  rw [res8, BitVec.getLsbD_and, BitVec.getLsbD_not, BitVec.getLsbD_ofNat, Nat.testBit_two_pow, decide_eq_true m.isLt, Bool.true_and,
    Bool.true_and]
  by_cases h : m = b
  · simp [h]
  · simp [h, Fin.val_ne_of_ne (Ne.symm h)]

theorem eq_of_getLsbD_fin {r v : Byte} (h : ∀ m : Fin 8, r.getLsbD m = v.getLsbD m) : r = v :=
  BitVec.eq_of_getLsbD_eq fun m hm => h ⟨m, hm⟩

theorem reg8_copyResult (s : State) (copy : Bool) (q p : Reg8) (v : Byte) :
    (s.copyResult copy q v).reg8 p = if p = q ∧ copy = true then v else s.reg8 p := by
  cases copy
  · simp [State.copyResult]
  · by_cases hp : p = q
    · simp [State.copyResult, hp]
    · simp [State.copyResult, hp, State.reg8_setReg8_of_ne]

theorem copyResult_frame (s : State) (copy : Bool) (q : Reg8) (v : Byte) :
    s.copyResult copy q v = { s with
      a := (s.copyResult copy q v).a, b := (s.copyResult copy q v).b, c := (s.copyResult copy q v).c
      d := (s.copyResult copy q v).d, e := (s.copyResult copy q v).e, h := (s.copyResult copy q v).h
      l := (s.copyResult copy q v).l } := by
  cases copy
  · rfl
  · cases q <;> rfl

/-- `i` is the instruction `j` with a copy of the result `r` in the register `q`, where `IXCB_REG_COPY` holds. -/
def CopiesBeside (P : Params) (s : State) (i j : Instr) (q : Reg8) (r : Byte) : Prop :=
  ∃ t u, execWith P i s = .next t ∧ execWith P j s = .next u ∧
    t = { u with a := t.a, b := t.b, c := t.c, d := t.d, e := t.e, h := t.h, l := t.l, budget := t.budget } ∧
    ∀ p : Reg8, t.reg8 p = if p = q ∧ P.ixcbRegCopy = true then r else s.reg8 p

theorem CopiesBeside.of_finish {P : Params} {s w : State} {i j : Instr} {q : Reg8} {r : Byte} (hw : w.reg8 = s.reg8)
    (hi : execWith P i s = finish P i (w.copyResult P.ixcbRegCopy q r)) (hj : execWith P j s = finish P j w) :
    CopiesBeside P s i j q r := by
  refine ⟨_, _, hi, hj, ?_, fun p => ?_⟩
  · have hframe := copyResult_frame w P.ixcbRegCopy q r
    generalize w.copyResult P.ixcbRegCopy q r = t at *
    rw [hframe]
    rfl
  · rw [← hw]
    exact reg8_copyResult w P.ixcbRegCopy q p r

theorem rotMemXydReg_copies (P : Params) (s : State) (x : IdxReg) (d : Byte) (q : Reg8) (k : RotOp) :
    CopiesBeside P s (rotMemXydReg x d q k) (rotMemXyd x d k) q
      (rotTable (s.readByte (addOffset (s.xy x) d)) (s.f.getLsbD 0) k).1 := by
  rw [← rotResult_eq_rotTable]
  refine .of_finish (w := s.rotMem k (s.ea x d)) (funext fun p => ?_) ?_ ?_
  · cases p <;> rfl
  · cases k <;> cases x <;> rfl
  · cases k <;> cases x <;> rfl

theorem resBMemXydR_copies (P : Params) (s : State) (x : IdxReg) (d : Byte) (q : Reg8) (b : Fin 8) :
    CopiesBeside P s (x.pick (.resBMemIxdR b d q) (.resBMemIydR b d q)) (x.pick (.resBMemIxd b d) (.resBMemIyd b d)) q
      (res8 b (s.readByte (addOffset (s.xy x) d))) := by
  refine .of_finish (w := s.writeByte (s.ea x d) (res8 b (s.readByte (s.ea x d)))) (funext fun p => ?_) ?_ ?_
  · cases p <;> rfl
  · cases x <;> rfl
  · cases x <;> rfl

theorem setBMemXydR_copies (P : Params) (s : State) (x : IdxReg) (d : Byte) (q : Reg8) (b : Fin 8) :
    CopiesBeside P s (x.pick (.setBMemIxdR b d q) (.setBMemIydR b d q)) (x.pick (.setBMemIxd b d) (.setBMemIyd b d)) q
      (set8 b (s.readByte (addOffset (s.xy x) d))) := by
  refine .of_finish (w := s.writeByte (s.ea x d) (set8 b (s.readByte (s.ea x d)))) (funext fun p => ?_) ?_ ?_
  · cases p <;> rfl
  · cases x <;> rfl
  · cases x <;> rfl

/-! ## The obligation -/

/-- Settles O60: what the CycleTable and `BLOCK_R_MODE` change is execWith_settingsFrame, the repeat forms are execWith_repeatForm, the
sums add16_flags, and each kind of indexed copy is CopiesBeside. -/
theorem parameterSettings : Obligations.ParameterSettings := by
  unfold Obligations.ParameterSettings
  intro P s _
  refine ⟨fun i => execWith_default i s, stepWith_default s, rfl, fun i => ?_, fun i hi => execWith_repeatForm hi P s,
    ⟨fun ss => ?_, fun pp => ?_, fun pp => ?_⟩, rfl, ?_⟩
  · obtain ⟨t, ht, htable, hmode⟩ := execWith_settingsFrame i s P
    exact ⟨t, ht, fun h => execWith_tableCost h ht, htable, hmode⟩
  · exact ⟨_, _, ⟨rfl, add16_flags P.add16Szpv s.hl (s.pair ss) s.flags⟩, rfl⟩
  · exact ⟨_, _, ⟨rfl, add16_flags P.add16Szpv s.ix (s.pairX .ix pp) s.flags⟩, rfl⟩
  · exact ⟨_, _, ⟨rfl, add16_flags P.add16Szpv s.iy (s.pairX .iy pp) s.flags⟩, rfl⟩
  · rintro x d q k b i j r (⟨rfl, rfl, rfl⟩ | ⟨rfl, rfl, hr⟩ | ⟨rfl, rfl, hr⟩)
    · exact rotMemXydReg_copies P s x d q k
    · obtain rfl := eq_of_getLsbD_fin fun m => (hr m).trans (getLsbD_res8 b m _).symm
      exact resBMemXydR_copies P s x d q b
    · obtain rfl := eq_of_getLsbD_fin fun m => (hr m).trans (getLsbD_set8 b m _).symm
      exact setBMemXydR_copies P s x d q b

end Sys2Proof.Machine
end

section
/-! SUPPORT and PROOFS. The family 10_state.md: who writes the shadow set, IX, IY, I, IM, bit 7 of R, the flip-flops and `halted`, which
rows the decoder answers, and where the budget stands after a step. Settles O11, O14, O15, O16 and O18. -/

namespace Sys2Proof.Machine

/-! ## Bit 7 of R (10_state.md R33) -/

theorem bumpR_getLsbD_seven (r : Byte) (n : Nat) : (bumpR r n).getLsbD 7 = r.getLsbD 7 := by
  have hsame : (bumpR r n).toNat / 2 ^ 7 = r.toNat / 2 ^ 7 := by
    have := bumpR_toNat r n
    omega
  rw [← BitVec.testBit_toNat, ← BitVec.testBit_toNat, Nat.testBit_eq_decide_div_mod_eq, Nat.testBit_eq_decide_div_mod_eq, hsame]

/-! ## The fields with named writers -/

/-- The fields whose writers 10_state.md R23, R24, R32, R34 to R36 and R40 name. -/
structure Control where
  i : Byte
  im : IntMode
  r7 : Bool
  /-- IFF1 and IFF2. -/
  iffs : Bool × Bool
  halted : Bool
  /-- A′ and F′. -/
  altAf : Byte × Byte
  /-- B′ to L′. -/
  altBcdehl : Byte × Byte × Byte × Byte × Byte × Byte
  ix : Word
  iy : Word

def State.control (s : State) : Control :=
  { i := s.i, im := s.im, r7 := s.r.getLsbD 7, iffs := (s.iff1, s.iff2), halted := s.halted, altAf := (s.altA, s.altF),
    altBcdehl := (s.altB, s.altC, s.altD, s.altE, s.altH, s.altL), ix := s.ix, iy := s.iy }

/-- These fields with another value of an index register. -/
def Control.setXy (k : Control) (x : IdxReg) (v : Word) : Control :=
  match x with
  | .ix => { k with ix := v }
  | .iy => { k with iy := v }

/-! ## What the updates leave of these fields -/

@[simp] theorem State.setXy_control (s : State) (x : IdxReg) (v : Word) : (s.setXy x v).control = s.control.setXy x v := by
  cases x <;> rfl
@[simp] theorem State.charge_xy (s : State) (n : Nat) (x : IdxReg) : (s.charge n).xy x = s.xy x := by cases x <;> rfl
@[simp] theorem State.setFlags_xy (s : State) (g : Flags) (x : IdxReg) : (s.setFlags g).xy x = s.xy x := by cases x <;> rfl

/-- A record that takes these fields from `s` has the control fields of `s`. -/
@[simp] theorem State.control_mk (s : State) (a f b c d e h l : Byte) (sp pc : Word) (budget : Int) (mem : Memory)
    (events : List PortEvent) :
    State.control { s with a := a, f := f, b := b, c := c, d := d, e := e, h := h, l := l, sp := sp, pc := pc, budget := budget,
                           mem := mem, events := events } = s.control := rfl

@[simp] theorem State.incR_control (s : State) (n : Nat) : (s.incR n).control = s.control := by
  simp only [State.control, State.incR, bumpR_getLsbD_seven]
@[simp] theorem State.charge_control (s : State) (n : Nat) : (s.charge n).control = s.control := rfl
@[simp] theorem State.writeByte_control (s : State) (a : Word) (v : Byte) : (s.writeByte a v).control = s.control := rfl
@[simp] theorem State.writeWord_control (s : State) (a v : Word) : (s.writeWord a v).control = s.control := rfl
@[simp] theorem State.push16_control (s : State) (v : Word) : (s.push16 v).control = s.control := rfl
@[simp] theorem State.drop16_control (s : State) : s.drop16.control = s.control := rfl
@[simp] theorem State.popPc_control (s : State) : s.popPc.control = s.control := rfl
@[simp] theorem State.callTo_control (s : State) (t : Word) : (s.callTo t).control = s.control := rfl
@[simp] theorem State.jumpRel_control (s : State) (e : Byte) : (s.jumpRel e).control = s.control := rfl
@[simp] theorem State.recordIn_control (s : State) (p : Word) (v : Byte) : (s.recordIn p v).control = s.control := rfl
@[simp] theorem State.portOut_control (s : State) (p : Word) (v : Byte) : (s.portOut p v).control = s.control := rfl
@[simp] theorem State.setFlags_control (s : State) (g : Flags) : (s.setFlags g).control = s.control := rfl
@[simp] theorem State.setAcc_control (s : State) (p : Byte × Flags) : (s.setAcc p).control = s.control := rfl
@[simp] theorem State.setDe_control (s : State) (v : Word) : (s.setDe v).control = s.control := rfl
@[simp] theorem State.setHl_control (s : State) (v : Word) : (s.setHl v).control = s.control := rfl
@[simp] theorem State.setReg8_control (s : State) (q : Reg8) (v : Byte) : (s.setReg8 q v).control = s.control := by
  cases q <;> rfl
@[simp] theorem State.setPair_control (s : State) (p : Pair) (v : Word) : (s.setPair p v).control = s.control := by
  cases p <;> rfl
@[simp] theorem State.setPairQ_control (s : State) (p : PairQ) (v : Word) : (s.setPairQ p v).control = s.control := by
  cases p <;> rfl
@[simp] theorem State.alu_control (s : State) (k : AluOp) (v : Byte) : (s.alu k v).control = s.control := by cases k <;> rfl
@[simp] theorem State.modifyMem_control (s : State) (a : Word) (p : Byte × Flags) : (s.modifyMem a p).control = s.control := rfl
@[simp] theorem State.rotAcc_control (s : State) (k : RotOp) : (s.rotAcc k).control = s.control := rfl
@[simp] theorem State.rotReg_control (s : State) (k : RotOp) (q : Reg8) : (s.rotReg k q).control = s.control :=
  s.setReg8_control q _
@[simp] theorem State.rotMem_control (s : State) (k : RotOp) (a : Word) : (s.rotMem k a).control = s.control := rfl
@[simp] theorem State.copyResult_control (s : State) (copy : Bool) (q : Reg8) (v : Byte) :
    (s.copyResult copy q v).control = s.control := by
  cases copy
  · rfl
  · exact s.setReg8_control q v
@[simp] theorem State.rotMemCopy_control (s : State) (copy : Bool) (k : RotOp) (a : Word) (q : Reg8) :
    (s.rotMemCopy copy k a q).control = s.control := State.copyResult_control _ copy q _
@[simp] theorem State.writeCopy_control (s : State) (copy : Bool) (a : Word) (q : Reg8) (v : Byte) :
    (s.writeCopy copy a q v).control = s.control := State.copyResult_control _ copy q v
@[simp] theorem State.ldStep_control (s : State) (dir : BlockDir) : (s.ldStep dir).control = s.control := rfl
@[simp] theorem State.cpStep_control (s : State) (dir : BlockDir) : (s.cpStep dir).control = s.control := rfl
@[simp] theorem State.inStep_control (s : State) (carry : Bool) (dir : BlockDir) : (s.inStep carry dir).control = s.control := rfl
@[simp] theorem State.outStep_control (s : State) (carry : Bool) (dir : BlockDir) : (s.outStep carry dir).control = s.control := rfl

/-- At its default setting RETI leaves the flip-flops alone (46_control.md R283, D16). -/
@[simp] theorem State.retiWith_false_control (s : State) : (s.retiWith false).control = s.control := rfl

theorem repeatLoop_control {body : State → State} (hbody : ∀ s, (body s).control = s.control) (costs : Cycles)
    (mode : BlockRMode) (ended : State → Bool) (fuel : Nat) (first : Bool) (total : Nat) (s : State) :
    (repeatLoop costs mode body ended fuel first total s).control = s.control :=
  repeatLoop_keeps (P := fun t => t.control = s.control) (fun t h => (hbody t).trans h) (fun t n h => (t.incR_control n).trans h)
    (fun _ _ h => h) (fun _ h => h) fuel first total s rfl

@[simp] theorem State.ldRepeat_control (s : State) (costs : Cycles) (mode : BlockRMode) (dir : BlockDir) :
    (s.ldRepeat costs mode dir).control = s.control := repeatLoop_control (State.ldStep_control · dir) ..
@[simp] theorem State.cpRepeat_control (s : State) (costs : Cycles) (mode : BlockRMode) (dir : BlockDir) :
    (s.cpRepeat costs mode dir).control = s.control := repeatLoop_control (State.cpStep_control · dir) ..
@[simp] theorem State.inRepeat_control (s : State) (carry : Bool) (costs : Cycles) (mode : BlockRMode) (dir : BlockDir) :
    (s.inRepeat carry costs mode dir).control = s.control := repeatLoop_control (State.inStep_control · carry dir) ..
@[simp] theorem State.outRepeat_control (s : State) (carry : Bool) (costs : Cycles) (mode : BlockRMode) (dir : BlockDir) :
    (s.outRepeat carry costs mode dir).control = s.control := repeatLoop_control (State.outStep_control · carry dir) ..

/-! ## What an instruction makes of these fields -/

/-- The index register an instruction writes, if it writes one (10_state.md R24). -/
def indexWritten : Instr → Option IdxReg
  | .addIxPp _ | .ldIxNn _ | .ldIxMemNn _ | .incIx | .decIx | .incIxh | .incIxl | .decIxh | .decIxl => some .ix
  | .ldIxhN _ | .ldIxlN _ | .ldIxhR _ | .ldIxlR _ | .popIx | .exMemSpIx => some .ix
  | .addIyPp _ | .ldIyNn _ | .ldIyMemNn _ | .incIy | .decIy | .incIyh | .incIyl | .decIyh | .decIyl => some .iy
  | .ldIyhN _ | .ldIylN _ | .ldIyhR _ | .ldIylR _ | .popIy | .exMemSpIy => some .iy
  | _ => none

/-- These fields with an index register, if one is given, as `t` has it. -/
def Control.withIndexOf (k : Control) (t : State) : Option IdxReg → Control
  | none => k
  | some x => k.setXy x (t.xy x)

/-- What the instructions that write one of these fields, other than IX and IY, make of it. -/
def controlAfter (i : Instr) (s : State) : Control :=
  match i with
  | .ldIA => { s.control with i := s.a }
  | .ldRA => { s.control with r7 := s.a.getLsbD 7 }
  | .im0 => { s.control with im := .mode0 }
  | .im1 => { s.control with im := .mode1 }
  | .im2 => { s.control with im := .mode2 }
  | .di => { s.control with iffs := (false, false) }
  | .ei => { s.control with iffs := (true, true) }
  | .retn => { s.control with iffs := (s.iff2, s.iff2) }
  | .halt => { s.control with halted := true }
  | .exAfAf => { s.control with altAf := (s.a, s.f) }
  | .exx => { s.control with altBcdehl := (s.b, s.c, s.d, s.e, s.h, s.l) }
  | _ => s.control

/-- HALT counts R, and bit 7 is kept. -/
theorem exec_halt_control (s : State) : ∃ t, exec .halt s = .next t ∧ t.control = { s.control with halted := true } := by
  refine ⟨_, rfl, ?_⟩
  rw [State.charge_control, ← s.incR_control (waitSteps s.budget - 1)]
  rfl

/-- What an instruction leaves in these fields: what its own arm of controlAfter says, and an index register's new value where it writes
one. -/
theorem exec_control {i : Instr} (h : isTransition i = false) (s : State) :
    ∃ t, exec i s = .next t ∧ t.control = (controlAfter i s).withIndexOf t (indexWritten i) := by
  cases i <;> cases h
  case halt => exact exec_halt_control s
  case ldIA | ldRA | im0 | im1 | im2 | di | ei | exAfAf | exx => exact ⟨_, rfl, rfl⟩
  case retn => exact ⟨_, rfl, State.popPc_control _⟩
  all_goals
    refine ⟨_, rfl, ?_⟩
    dsimp only [controlAfter, indexWritten, Control.withIndexOf]
    simp [State.setXyh, State.setXyl, Params.default, apply_ite State.control]

/-! ## What the decoder can answer -/

/-- A row that is no decode transition and writes neither index register. -/
def PlainRow (i : Instr) : Prop := isTransition i = false ∧ indexWritten i = none

theorem plainRow_decodeMain0 (op n1 n2 : Byte) : PlainRow (decodeMain0 op n1 n2).instr := by
  unfold decodeMain0
  dsimp only
  repeat' split
  all_goals exact ⟨rfl, rfl⟩

theorem plainRow_decodeMain1 (op : Byte) : PlainRow (decodeMain1 op).instr := by
  unfold decodeMain1
  split <;> exact ⟨rfl, rfl⟩

theorem plainRow_decodeMain2 (op : Byte) : PlainRow (decodeMain2 op).instr := by
  unfold decodeMain2
  split <;> cases aluOfField (opY op) <;> exact ⟨rfl, rfl⟩

theorem indexWritten_decodeBitOps (op : Byte) : indexWritten (decodeBitOps op).instr = none := by
  unfold decodeBitOps
  dsimp only
  split
  · cases rotOfField (opY op) <;> rfl
  · cases rotOfField (opY op) <;> rfl
  all_goals rfl

theorem indexWritten_decodeExtended (op n1 n2 : Byte) : indexWritten (decodeExtended op n1 n2).instr = none := by
  unfold decodeExtended decodeExtended1 decodeExtended2
  dsimp only
  repeat' split
  all_goals rfl

theorem indexWritten_decodeIndexedBitOps (x : IdxReg) (d op : Byte) :
    indexWritten (decodeIndexedBitOps x d op).instr = none := by
  unfold decodeIndexedBitOps
  dsimp only
  split
  · cases rotOfField (opY op) <;> cases x <;> rfl
  · cases rotOfField (opY op) <;> cases x <;> rfl
  all_goals cases x <;> rfl

/-- The rows after 0xDD or 0xFD write no index register but the one that byte selects (10_state.md R24). -/
theorem indexWritten_decodeIndexed (x : IdxReg) (op n1 n2 : Byte) :
    (indexWritten (decodeIndexed x op n1 n2).instr).all (· == x) = true := by
  unfold decodeIndexed
  split
  · unfold decodeIndexed0
    dsimp only
    split <;> cases x <;> rfl
  · unfold decodeIndexed1
    repeat' split
    all_goals cases x <;> rfl
  · unfold decodeIndexed2
    dsimp only
    split
    iterate 3 cases aluOfField (opY op) <;> cases x <;> rfl
    all_goals cases x <;> rfl
  · unfold decodeIndexed3
    split
    case h_6 =>
      dsimp only
      rw [indexWritten_decodeIndexedBitOps, Option.all_none]
    all_goals cases x <;> rfl

/-- The first byte of the instructions on an index register (30_encoding.md R71). -/
def prefixByte : IdxReg → Byte
  | .ix => 0xDD
  | .iy => 0xFD

/-- A row that the first byte `b0` can select: no decode transition, and it writes an index register only where `b0` is the byte
that selects that register (10_state.md R24). -/
def RowFrom (b0 : Byte) (i : Instr) : Prop := isTransition i = false ∧ ∀ x, indexWritten i = some x → b0 = prefixByte x

theorem RowFrom.of_plain {b0 : Byte} {i : Instr} (h : PlainRow i) : RowFrom b0 i :=
  ⟨h.1, fun x hx => by rw [h.2] at hx; cases hx⟩

theorem RowFrom.of_decodeIndexed (x : IdxReg) (op n1 n2 : Byte) : RowFrom (prefixByte x) (decodeIndexed x op n1 n2).instr := by
  refine ⟨isTransition_decodeIndexed x op n1 n2, fun y hy => ?_⟩
  have hall := indexWritten_decodeIndexed x op n1 n2
  rw [hy, Option.all_some, beq_iff_eq] at hall
  rw [hall]

theorem rowFrom_decodeMain3 {b0 : Byte} (hx : opX b0 = 3) (b1 b2 b3 : Byte) : RowFrom b0 (decodeMain3 b0 b1 b2 b3).instr := by
  unfold decodeMain3
  dsimp only
  split
  case h_4 =>
    split
    case h_2 => exact .of_plain ⟨isTransition_decodeBitOps b1, indexWritten_decodeBitOps b1⟩
    all_goals exact .of_plain ⟨rfl, rfl⟩
  case h_6 hz =>
    split
    case h_6 hy =>
      obtain rfl : 0xDD = b0 := by rw [← opByte_fields b0, hx, hy, hz]; rfl
      exact .of_decodeIndexed .ix b1 b2 b3
    case h_7 => exact .of_plain ⟨isTransition_decodeExtended b1 b2 b3, indexWritten_decodeExtended b1 b2 b3⟩
    case h_8 hy =>
      obtain rfl : 0xFD = b0 := by rw [← opByte_fields b0, hx, hy, hz]; rfl
      exact .of_decodeIndexed .iy b1 b2 b3
    all_goals exact .of_plain ⟨rfl, rfl⟩
  case h_7 => cases aluOfField (opY b0) <;> exact .of_plain ⟨rfl, rfl⟩
  case h_2 => split <;> exact .of_plain ⟨rfl, rfl⟩
  all_goals exact .of_plain ⟨rfl, rfl⟩

theorem rowFrom_decodeBytes (b0 b1 b2 b3 : Byte) : RowFrom b0 (decodeBytes b0 b1 b2 b3).instr := by
  unfold decodeBytes
  split
  · exact .of_plain (plainRow_decodeMain0 b0 b1 b2)
  · exact .of_plain (plainRow_decodeMain1 b0)
  · exact .of_plain (plainRow_decodeMain2 b0)
  · exact rowFrom_decodeMain3 ‹_› b1 b2 b3

/-! ## Who changed what -/

/-- `k'` differs from `k` in a field only if the instruction `j` is a writer of that field. -/
structure ChangedBy (j : Instr) (k k' : Control) : Prop where
  i : k'.i = k.i ∨ j = .ldIA
  im : k'.im = k.im ∨ j = .im0 ∨ j = .im1 ∨ j = .im2
  r7 : k'.r7 = k.r7 ∨ j = .ldRA
  iffs : k'.iffs = k.iffs ∨ j = .di ∨ j = .ei ∨ j = .retn
  halted : k'.halted = k.halted ∨ j = .halt
  altAf : k'.altAf = k.altAf ∨ j = .exAfAf
  altBcdehl : k'.altBcdehl = k.altBcdehl ∨ j = .exx
  ix : k'.ix = k.ix ∨ indexWritten j = some .ix
  iy : k'.iy = k.iy ∨ indexWritten j = some .iy

theorem changedBy_controlAfter (j : Instr) (s : State) : ChangedBy j s.control (controlAfter j s) := by
  unfold controlAfter
  split <;> constructor <;> simp

theorem ChangedBy.withIndexOf {j : Instr} {k k' : Control} (h : ChangedBy j k k') (t : State) :
    ChangedBy j k (k'.withIndexOf t (indexWritten j)) := by
  match hx : indexWritten j with
  | none => exact h
  | some .ix => exact { h with ix := .inr hx }
  | some .iy => exact { h with iy := .inr hx }

theorem Control.withIndexOf_iffs (k : Control) (t : State) (x : Option IdxReg) : (k.withIndexOf t x).iffs = k.iffs := by
  obtain _ | _ | _ := x <;> rfl

/-- DI, EI and RETN, which alone write the flip-flops, leave them equal. -/
theorem controlAfter_iffs_agree {s : State} (h : s.control.iffs.1 = s.control.iffs.2) (j : Instr) :
    (controlAfter j s).iffs.1 = (controlAfter j s).iffs.2 := by
  unfold controlAfter
  split <;> simp [h]

/-! ## The step -/

@[simp] theorem State.haltedWait_control (s : State) : s.haltedWait.control = s.control := s.incR_control _

theorem State.fetchNext_control (s : State) : s.fetchNext.control = s.control := s.incR_control _

theorem State.acceptInterrupt_control (s : State) (P : Params) :
    (s.acceptInterrupt P).control = { s.control with iffs := (false, false), halted := false } := by
  unfold State.acceptInterrupt
  dsimp only
  split <;> rfl

/-- An opportunity changes the flip-flops and `halted` alone, and only where it is accepted (60_exceptions.md R353). -/
theorem State.opportunity_control (s : State) (P : Params) :
    (s.opportunity P).control = s.control ∨
    (0 ≤ s.budget ∧ s.iff1 = true) ∧ (s.opportunity P).control = { s.control with iffs := (false, false), halted := false } := by
  obtain ⟨-, ho⟩ | ⟨-, -, ho⟩ | ⟨hb, hi, ho⟩ := s.opportunity_cases P <;> rw [ho]
  · exact .inl rfl
  · exact .inl rfl
  · exact .inr ⟨⟨hb, hi⟩, s.acceptInterrupt_control P⟩

theorem State.opportunity_control_frame (s : State) (P : Params) :
    (s.opportunity P).control =
      { s.control with iffs := (s.opportunity P).control.iffs, halted := (s.opportunity P).control.halted } := by
  obtain ho | ⟨-, ho⟩ := s.opportunity_control P <;> rw [ho]

/-- An instruction that writes an index register begins with the byte that selects it. -/
theorem RunsNext.firstByte_of_indexWritten {s : State} {j : Instr} {x : IdxReg} (h : RunsNext s j) (hx : indexWritten j = some x) :
    s.opportunity.readByte s.opportunity.pc = prefixByte x := by
  obtain ⟨-, rfl⟩ := h
  rw [← (rowFrom_decodeBytes ..).2 x hx, State.byteAhead, BitVec.add_zero]

theorem isTransition_decodeAtPc (s : State) : isTransition s.decodeAtPc.instr = false := (rowFrom_decodeBytes ..).1

/-- One step waits, and then changes none of these fields, or runs an instruction, from a state in which they are as the opportunity
leaves them. -/
theorem step_control {s t : State} (h : step s = .next t) :
    (s.opportunity.halted = true ∧ t.control = s.opportunity.control) ∨
    ∃ j u, RunsNext s j ∧ u.control = s.opportunity.control ∧ t.control = (controlAfter j u).withIndexOf t (indexWritten j) := by
  obtain ⟨hhalt, hs⟩ | ⟨hrun, hs⟩ := step_cases s
  · rw [hs] at h
    cases h
    exact .inl ⟨hhalt, State.haltedWait_control _⟩
  · obtain ⟨t', ht', hc⟩ := exec_control (isTransition_decodeAtPc s.opportunity) s.opportunity.fetchNext
    rw [hs, ht'] at h
    cases h
    exact .inr ⟨_, _, ⟨hrun, rfl⟩, State.fetchNext_control _, hc⟩

theorem step_changedBy {s t : State} (h : step s = .next t) :
    (s.opportunity.halted = true ∧ t.control = s.opportunity.control) ∨
    ∃ j, RunsNext s j ∧ ChangedBy j s.opportunity.control t.control := by
  obtain hwait | ⟨j, u, hrun, hu, ht⟩ := step_control h
  · exact .inl hwait
  · exact .inr ⟨j, hrun, ht ▸ hu ▸ (changedBy_controlAfter j u).withIndexOf t⟩

/-- Where a step changes a field that the opportunity left alone, it runs a writer of the field. -/
theorem step_runs_writer {α : Type} {field : Control → α} {writes : Instr → Prop} {s t : State} (h : step s = .next t)
    (hwriters : ∀ {j k k'}, ChangedBy j k k' → field k' = field k ∨ writes j)
    (hopp : field s.opportunity.control = field s.control) (hne : field t.control ≠ field s.control) :
    ∃ j, writes j ∧ RunsNext s j := by
  obtain ⟨-, ht⟩ | ⟨j, hrun, hch⟩ := step_changedBy h
  · exact absurd (ht ▸ hopp) hne
  · obtain hsame | hw := hwriters hch
    · exact absurd (hsame.trans hopp) hne
    · exact ⟨j, hw, hrun⟩

/-! ## The budget (10_state.md R38) -/

@[simp] theorem State.acceptInterrupt_budget (s : State) (P : Params) : (s.acceptInterrupt P).budget = s.budget := by
  unfold State.acceptInterrupt
  dsimp only
  split <;> rfl

theorem acceptCost_le (m : IntMode) : acceptCost m ≤ 19 := by cases m <;> decide

theorem le_frameCycles : 42 ≤ Config.frameCycles := Nat.le_add_left 42 Config.frameSlack

/-- After the opportunity the budget is negative, since a frame is longer than what an instruction runs over its end and an acceptance
cost together. -/
theorem BudgetInFrame.opportunity {s : State} (h : BudgetInFrame s) (P : Params) :
    -(Config.frameCycles : Int) ≤ (s.opportunity P).budget ∧ (s.opportunity P).budget < 0 := by
  obtain ⟨hlow, hhigh⟩ := h
  have hframe := le_frameCycles
  have hcost := acceptCost_le s.im
  obtain ⟨hb, ho⟩ | ⟨hb, -, ho⟩ | ⟨hb, -, ho⟩ := s.opportunity_cases P <;> rw [ho]
  · exact ⟨hlow, hb⟩
  · dsimp only
    omega
  · dsimp only
    rw [State.acceptInterrupt_budget]
    omega

/-- The wait of HALT ends at the first multiple of 4 cycles that is not negative (60_exceptions.md R356). -/
theorem waitSteps_bounds {b : Int} (h : b < 0) : 0 ≤ b + 4 * (waitSteps b : Int) ∧ b + 4 * (waitSteps b : Int) < 4 := by
  unfold waitSteps
  omega

theorem cycleTable_cost_le {i : Instr} (h : hasTableCost i = true) (taken : Bool) : (cycleTable i).cost taken ≤ 23 := by
  cases taken <;> cases i <;> cases h <;> exact Nat.le_of_ble_eq_true rfl

/-- The loop goes on only while the budget is negative, and its last iteration costs 21 at most (47_block.md R308). -/
theorem repeatLoop_budget {body : State → State} (hbody : ∀ s, (body s).budget = s.budget) (mode : BlockRMode)
    (ended : State → Bool) (fuel : Nat) :
    ∀ (first : Bool) (total : Nat) (s : State), s.budget + total < 0 →
      s.budget ≤ (repeatLoop blockCosts mode body ended fuel first total s).budget ∧
      (repeatLoop blockCosts mode body ended fuel first total s).budget < 21 := by
  induction fuel with
  | zero =>
    intro first total s h
    rw [repeatLoop, State.charge_budget]
    omega
  | succ fuel ih =>
    intro first total s h
    have hb : (body (s.incR (blockIncR mode first))).budget = s.budget := hbody _
    have hlast : blockCosts.cost false = 16 := rfl
    have hmore : blockCosts.cost true = 21 := rfl
    rw [repeatLoop_succ]
    generalize body (s.incR (blockIncR mode first)) = t at hb ⊢
    dsimp only
    by_cases hend : ended t = true
    · rw [if_pos hend, State.charge_budget]
      omega
    · rw [if_neg hend]
      by_cases hcheck : 0 ≤ t.budget + ((total + blockCosts.cost true : Nat) : Int)
      · rw [if_pos hcheck, State.charge_budget]
        dsimp only
        omega
      · rw [if_neg hcheck, ← hb]
        exact ih false _ t (by omega)

theorem exec_repeatForm_budget {i : Instr} (hi : i ∈ repeatForms) {s t : State} (hneg : s.budget < 0) (h : exec i s = .next t) :
    s.budget ≤ t.budget ∧ t.budget < 21 := by
  have hstart : s.budget + ((0 : Nat) : Int) < 0 := by omega
  simp only [repeatForms, List.mem_cons, List.not_mem_nil, or_false] at hi
  rcases hi with rfl | rfl | rfl | rfl | rfl | rfl | rfl | rfl <;> cases h
  · exact repeatLoop_budget (State.ldStep_budget · .up) _ _ _ _ _ _ hstart
  · exact repeatLoop_budget (State.ldStep_budget · .down) _ _ _ _ _ _ hstart
  · exact repeatLoop_budget (State.cpStep_budget · .up) _ _ _ _ _ _ hstart
  · exact repeatLoop_budget (State.cpStep_budget · .down) _ _ _ _ _ _ hstart
  · exact repeatLoop_budget (State.inStep_budget · _ .up) _ _ _ _ _ _ hstart
  · exact repeatLoop_budget (State.inStep_budget · _ .down) _ _ _ _ _ _ hstart
  · exact repeatLoop_budget (State.outStep_budget · _ .up) _ _ _ _ _ _ hstart
  · exact repeatLoop_budget (State.outStep_budget · _ .down) _ _ _ _ _ _ hstart

theorem exec_halt_budget {s t : State} (h : exec .halt s = .next t) : t.budget = s.budget + 4 * (waitSteps s.budget : Int) := by
  cases h
  exact congrArg (s.budget + ·) (Nat.cast_mul 4 _)

/-- From a negative budget no instruction runs more than 22 cycles over the end of the frame. -/
theorem exec_budget {i : Instr} (hi : isTransition i = false) {s t : State} (hneg : s.budget < 0) (h : exec i s = .next t) :
    s.budget ≤ t.budget ∧ t.budget < 23 := by
  obtain hcost | rfl | hrep := hasTableCost_or_halt_or_repeats hi
  · obtain ⟨taken, ht⟩ := execWith_tableCost hcost ((execWith_default i s).trans h)
    have hle : (Params.default.cycles i).cost taken ≤ 23 := cycleTable_cost_le hcost taken
    omega
  · have hwait := waitSteps_bounds hneg
    rw [exec_halt_budget h]
    omega
  · have hloop := exec_repeatForm_budget hrep hneg h
    omega

/-! ## The obligations -/

/-- Settles O11: after the opportunity the budget is negative and in the frame (BudgetInFrame.opportunity), and from there the wait and
every instruction stay below 23 (waitSteps_bounds, exec_budget). -/
theorem stepKeepsBudgetInFrame : Obligations.StepKeepsBudgetInFrame := by
  unfold Obligations.StepKeepsBudgetInFrame
  intro s t hs h
  obtain ⟨hlow, hneg⟩ := hs.opportunity Params.default
  have hbounds : s.opportunity.budget ≤ t.budget ∧ t.budget < 23 := by
    obtain ⟨-, hstep⟩ | ⟨-, hstep⟩ := step_cases s <;> rw [hstep] at h
    · cases h
      have hwait := waitSteps_bounds hneg
      rw [State.haltedWait_budget]
      omega
    · exact exec_budget (isTransition_decodeAtPc _) (s := s.opportunity.fetchNext) hneg h
  exact ⟨hlow.trans hbounds.1, hbounds.2⟩

/-- Settles O14: an accepted opportunity clears both flip-flops (State.opportunity_control), and whatever instruction then runs leaves them
equal (step_control, controlAfter_iffs_agree). -/
theorem stepKeepsIffsAgree : Obligations.StepKeepsIffsAgree := by
  unfold Obligations.StepKeepsIffsAgree
  intro s t hs h
  have hopp : s.opportunity.control.iffs.1 = s.opportunity.control.iffs.2 := by
    obtain ho | ⟨-, ho⟩ := s.opportunity_control Params.default <;> rw [ho]
    exact hs
  show t.control.iffs.1 = t.control.iffs.2
  obtain ⟨-, ht⟩ | ⟨j, u, -, hu, ht⟩ := step_control h
  · rwa [ht]
  · rw [ht, Control.withIndexOf_iffs]
    exact controlAfter_iffs_agree (hu ▸ hopp) j

/-- Settles O15: the opportunity changes the flip-flops and `halted` alone, and only where it is accepted (State.opportunity_control);
what an instruction changes of these fields it is a writer of (step_runs_writer). -/
theorem controlRegisterWriters : Obligations.ControlRegisterWriters := by
  unfold Obligations.ControlRegisterWriters
  intro s t h
  have hframe := s.opportunity_control_frame Params.default
  have hopp := s.opportunity_control Params.default
  refine ⟨fun hne => ?_, fun hne => ?_, fun hne => ?_, fun hne => ?_, fun ht hs => ?_, fun ht hs => ?_⟩
  · obtain ⟨_, rfl, hrun⟩ := step_runs_writer h ChangedBy.i (congrArg Control.i hframe :) hne
    exact hrun
  · obtain ⟨_, rfl | rfl | rfl, hrun⟩ := step_runs_writer h ChangedBy.im (congrArg Control.im hframe :) hne
    · exact .inl hrun
    · exact .inr (.inl hrun)
    · exact .inr (.inr hrun)
  · obtain ⟨_, rfl, hrun⟩ := step_runs_writer h ChangedBy.r7 (congrArg Control.r7 hframe :) hne
    exact hrun
  · obtain ho | ⟨haccepted, -⟩ := hopp
    · have hiffs : t.control.iffs ≠ s.control.iffs := fun he => (Prod.mk.inj he).elim fun h1 h2 => hne.elim (· h1) (· h2)
      obtain ⟨_, rfl | rfl | rfl, hrun⟩ := step_runs_writer h ChangedBy.iffs (congrArg Control.iffs ho) hiffs
      · exact .inr (.inl hrun)
      · exact .inr (.inr (.inl hrun))
      · exact .inr (.inr (.inr (.inl hrun)))
    · exact .inl haccepted
  · have hawake : s.opportunity.control.halted = s.control.halted := by
      obtain ho | ⟨-, ho⟩ := hopp <;> rw [ho]
      exact hs.symm
    obtain ⟨_, rfl, hrun⟩ := step_runs_writer h ChangedBy.halted hawake (show t.halted ≠ s.halted by simp [ht, hs])
    exact hrun
  · obtain ho | ⟨haccepted, -⟩ := hopp
    · have hhalted : s.opportunity.halted = true := (congrArg Control.halted ho).trans hs
      obtain ⟨-, hwait⟩ | ⟨_, _, ⟨hrun, -⟩, -⟩ := step_control h
      · exact absurd (ht.symm.trans ((congrArg Control.halted hwait).trans hhalted)) Bool.false_ne_true
      · exact absurd (hrun.symm.trans hhalted) Bool.false_ne_true
    · exact haccepted

/-- Settles O16: the opportunity changes neither the shadow set nor an index register (State.opportunity_control_frame), and an
instruction that writes an index register begins with the byte that selects it (rowFrom_decodeBytes). -/
theorem shadowAndIndexWriters : Obligations.ShadowAndIndexWriters := by
  unfold Obligations.ShadowAndIndexWriters
  intro s t h
  have hframe := s.opportunity_control_frame Params.default
  refine ⟨fun hne => ?_, fun hne => ?_, fun hne => ?_, fun hne => ?_⟩
  · have hpair : t.control.altAf ≠ s.control.altAf := by
      simp only [State.control, ne_eq, Prod.mk.injEq]
      tauto
    obtain ⟨_, rfl, hrun⟩ := step_runs_writer h ChangedBy.altAf (congrArg Control.altAf hframe :) hpair
    exact hrun
  · have hset : t.control.altBcdehl ≠ s.control.altBcdehl := by
      simp only [State.control, ne_eq, Prod.mk.injEq]
      tauto
    obtain ⟨_, rfl, hrun⟩ := step_runs_writer h ChangedBy.altBcdehl (congrArg Control.altBcdehl hframe :) hset
    exact hrun
  · obtain ⟨_, hwrites, hrun⟩ := step_runs_writer h ChangedBy.ix (congrArg Control.ix hframe :) hne
    exact ⟨hrun.1, hrun.firstByte_of_indexWritten hwrites⟩
  · obtain ⟨_, hwrites, hrun⟩ := step_runs_writer h ChangedBy.iy (congrArg Control.iy hframe :) hne
    exact ⟨hrun.1, hrun.firstByte_of_indexWritten hwrites⟩

/-- Settles O18: IncR by its value as a number (bumpR_toNat). -/
theorem incRKeepsBit7 : Obligations.IncRKeepsBit7 := by
  unfold Obligations.IncRKeepsBit7
  intro s n
  refine ⟨rfl, ?_, bumpR_getLsbD_seven s.r n⟩
  rw [State.incR_r, bumpR_toNat]
  omega

end Sys2Proof.Machine
end

section
/-! SUPPORT and PROOFS. The family 20_memory.md: what a step can make of memory, how it extends the event history, and how a word is
read. Settles O10, O13, O17 and O19. -/

namespace Sys2Proof.Machine

/-! ## What stores can make of memory (20_memory.md R54) -/

/-- The memories that stores to writable banks can make of `m`. -/
inductive ReachedByStores (m : Memory) : Memory → Prop where
  | refl : ReachedByStores m m
  | store {n : Memory} {a : Word} (v : Byte) (hwritable : writable a = true) (h : ReachedByStores m n) :
      ReachedByStores m (n.write a.toNat v)

theorem ReachedByStores.trans {m n p : Memory} (hmn : ReachedByStores m n) (hnp : ReachedByStores n p) : ReachedByStores m p := by
  induction hnp with
  | refl => exact hmn
  | store v hwritable _ ih => exact .store v hwritable ih

/-- What writeByte leaves: a store to a read-only bank is discarded. -/
@[simp] theorem ReachedByStores.ite_write {m n : Memory} (h : ReachedByStores m n) (a : Word) (v : Byte) :
    ReachedByStores m (if writable a = true then n.write a.toNat v else n) := by
  by_cases hw : writable a = true
  · rw [if_pos hw]
    exact .store v hw h
  · rwa [if_neg hw]

theorem ReachedByStores.wf {m n : Memory} (h : ReachedByStores m n) (hm : m.wf = true) : n.wf = true := by
  induction h with
  | refl => exact hm
  | store v _ _ ih => exact Memory.wf_write v (BitVec.isLt _) ih

theorem ReachedByStores.read_of_not_writable {m n : Memory} (h : ReachedByStores m n) {x : Word} (hx : writable x = false) :
    n.read x.toNat = m.read x.toNat := by
  induction h with
  | refl => rfl
  | @store _ a v hwritable _ ih =>
    have hne : x.toNat ≠ a.toNat := by
      intro he
      rw [BitVec.eq_of_toNat_eq he, hwritable] at hx
      exact Bool.noConfusion hx
    exact (Memory.read_write_of_ne hne v _).trans ih

/-! ## What the updates leave of memory -/

@[simp] theorem State.alu_mem (s : State) (k : AluOp) (v : Byte) : (s.alu k v).mem = s.mem := by cases k <;> rfl
@[simp] theorem State.modifyMem_mem (s : State) (a : Word) (p : Byte × Flags) :
    (s.modifyMem a p).mem = (s.writeByte a p.1).mem := rfl
@[simp] theorem State.rotAcc_mem (s : State) (k : RotOp) : (s.rotAcc k).mem = s.mem := rfl
@[simp] theorem State.rotReg_mem (s : State) (k : RotOp) (q : Reg8) : (s.rotReg k q).mem = s.mem := s.setReg8_mem q _
@[simp] theorem State.rotMem_mem (s : State) (k : RotOp) (a : Word) :
    (s.rotMem k a).mem = (s.writeByte a (rot8 k (s.readByte a) s.flags.c).1).mem := rfl
@[simp] theorem State.copyResult_mem (s : State) (copy : Bool) (q : Reg8) (v : Byte) : (s.copyResult copy q v).mem = s.mem := by
  cases copy
  · rfl
  · exact s.setReg8_mem q v
@[simp] theorem State.rotMemCopy_mem (s : State) (copy : Bool) (k : RotOp) (a : Word) (q : Reg8) :
    (s.rotMemCopy copy k a q).mem = (s.rotMem k a).mem := State.copyResult_mem _ copy q _
@[simp] theorem State.writeCopy_mem (s : State) (copy : Bool) (a : Word) (q : Reg8) (v : Byte) :
    (s.writeCopy copy a q v).mem = (s.writeByte a v).mem := State.copyResult_mem _ copy q v
@[simp] theorem State.setXyh_mem (s : State) (x : IdxReg) (v : Byte) : (s.setXyh x v).mem = s.mem := s.setXy_mem x _
@[simp] theorem State.setXyl_mem (s : State) (x : IdxReg) (v : Byte) : (s.setXyl x v).mem = s.mem := s.setXy_mem x _
@[simp] theorem State.retiWith_mem (s : State) (b : Bool) : (s.retiWith b).mem = s.mem := rfl
@[simp] theorem State.ldStep_mem (s : State) (dir : BlockDir) :
    (s.ldStep dir).mem = (s.writeByte s.de (s.readByte s.hl)).mem := rfl
@[simp] theorem State.cpStep_mem (s : State) (dir : BlockDir) : (s.cpStep dir).mem = s.mem := rfl
@[simp] theorem State.inStep_mem (s : State) (carry : Bool) (dir : BlockDir) :
    (s.inStep carry dir).mem = (s.writeByte s.hl (s.portValue s.bc)).mem := rfl
@[simp] theorem State.outStep_mem (s : State) (carry : Bool) (dir : BlockDir) : (s.outStep carry dir).mem = s.mem := rfl

/-! ## What an instruction and a step can make of memory -/

theorem State.writeByte_stores (s : State) (a : Word) (v : Byte) : ReachedByStores s.mem (s.writeByte a v).mem :=
  .ite_write .refl a v

theorem State.writeWord_stores (s : State) (a v : Word) : ReachedByStores s.mem (s.writeWord a v).mem :=
  (s.writeByte_stores a (loByte v)).trans ((s.writeByte a (loByte v)).writeByte_stores (a + 1) (hiByte v))

theorem State.push16_stores (s : State) (v : Word) : ReachedByStores s.mem (s.push16 v).mem := s.writeWord_stores (s.sp - 2) v

theorem repeatLoop_stores {body : State → State} (hbody : ∀ s, ReachedByStores s.mem (body s).mem) (costs : Cycles)
    (mode : BlockRMode) (ended : State → Bool) (fuel : Nat) (first : Bool) (total : Nat) (s : State) :
    ReachedByStores s.mem (repeatLoop costs mode body ended fuel first total s).mem :=
  repeatLoop_keeps (P := fun t => ReachedByStores s.mem t.mem) (fun t h => h.trans (hbody t)) (fun _ _ h => h) (fun _ _ h => h)
    (fun _ h => h) fuel first total s .refl

theorem State.ldRepeat_stores (s : State) (costs : Cycles) (mode : BlockRMode) (dir : BlockDir) :
    ReachedByStores s.mem (s.ldRepeat costs mode dir).mem :=
  repeatLoop_stores (body := (·.ldStep dir)) (fun t => t.writeByte_stores t.de (t.readByte t.hl)) ..
theorem State.cpRepeat_stores (s : State) (costs : Cycles) (mode : BlockRMode) (dir : BlockDir) :
    ReachedByStores s.mem (s.cpRepeat costs mode dir).mem := repeatLoop_stores (body := (·.cpStep dir)) (fun _ => .refl) ..
theorem State.inRepeat_stores (s : State) (carry : Bool) (costs : Cycles) (mode : BlockRMode) (dir : BlockDir) :
    ReachedByStores s.mem (s.inRepeat carry costs mode dir).mem :=
  repeatLoop_stores (body := (·.inStep carry dir)) (fun t => t.writeByte_stores t.hl (t.portValue t.bc)) ..
theorem State.outRepeat_stores (s : State) (carry : Bool) (costs : Cycles) (mode : BlockRMode) (dir : BlockDir) :
    ReachedByStores s.mem (s.outRepeat carry costs mode dir).mem :=
  repeatLoop_stores (body := (·.outStep carry dir)) (fun _ => .refl) ..

/-- An instruction stores words, pushes, or repeats a store; each of the others stores one byte or none. -/
theorem exec_stores {i : Instr} (h : isTransition i = false) (s : State) :
    ∃ t, exec i s = .next t ∧ ReachedByStores s.mem t.mem := by
  cases i <;> cases h
  case ldMemNnHl | ldMemNnDd | ldMemNnIx | ldMemNnIy | exMemSpHl | exMemSpIx | exMemSpIy =>
    exact ⟨_, rfl, s.writeWord_stores ..⟩
  case pushQq | pushIx | pushIy | callNn | rstP => exact ⟨_, rfl, s.push16_stores _⟩
  case callCcNn cc nn =>
    refine ⟨_, rfl, ?_⟩
    by_cases hc : s.cond cc = true
    · rw [if_pos hc]
      exact s.push16_stores s.pc
    · rw [if_neg hc]
      exact .refl
  case ldir | lddr => exact ⟨_, rfl, s.ldRepeat_stores ..⟩
  case cpir | cpdr => exact ⟨_, rfl, s.cpRepeat_stores ..⟩
  case inir | indr => exact ⟨_, rfl, s.inRepeat_stores ..⟩
  case otir | otdr => exact ⟨_, rfl, s.outRepeat_stores ..⟩
  all_goals
    refine ⟨_, rfl, ?_⟩
    simp [ReachedByStores.refl, apply_ite State.mem]

theorem State.acceptInterrupt_mem (s : State) (P : Params) : (s.acceptInterrupt P).mem = (s.push16 s.pc).mem := by
  unfold State.acceptInterrupt
  dsimp only
  split <;> rfl

theorem State.opportunity_stores (s : State) (P : Params) : ReachedByStores s.mem (s.opportunity P).mem := by
  obtain ⟨-, ho⟩ | ⟨-, -, ho⟩ | ⟨-, -, ho⟩ := s.opportunity_cases P <;> rw [ho]
  · exact .refl
  · exact .refl
  · dsimp only
    rw [State.acceptInterrupt_mem]
    exact s.push16_stores s.pc

/-- The opportunity may push PC, and an instruction may store; the wait does neither. -/
theorem step_stores {s t : State} (h : step s = .next t) : ReachedByStores s.mem t.mem := by
  obtain ⟨-, hs⟩ | ⟨-, hs⟩ := step_cases s
  · rw [hs] at h
    cases h
    exact s.opportunity_stores Params.default
  · obtain ⟨t', ht', hstores⟩ := exec_stores (isTransition_decodeAtPc s.opportunity) s.opportunity.fetchNext
    rw [hs, ht'] at h
    cases h
    exact (s.opportunity_stores Params.default).trans hstores

/-! ## What the updates leave of the event history -/

@[simp] theorem State.alu_events (s : State) (k : AluOp) (v : Byte) : (s.alu k v).events = s.events := by cases k <;> rfl
@[simp] theorem State.modifyMem_events (s : State) (a : Word) (p : Byte × Flags) : (s.modifyMem a p).events = s.events := rfl
@[simp] theorem State.rotAcc_events (s : State) (k : RotOp) : (s.rotAcc k).events = s.events := rfl
@[simp] theorem State.rotReg_events (s : State) (k : RotOp) (q : Reg8) : (s.rotReg k q).events = s.events := s.setReg8_events q _
@[simp] theorem State.rotMem_events (s : State) (k : RotOp) (a : Word) : (s.rotMem k a).events = s.events := rfl
@[simp] theorem State.copyResult_events (s : State) (copy : Bool) (q : Reg8) (v : Byte) :
    (s.copyResult copy q v).events = s.events := by
  cases copy
  · rfl
  · exact s.setReg8_events q v
@[simp] theorem State.rotMemCopy_events (s : State) (copy : Bool) (k : RotOp) (a : Word) (q : Reg8) :
    (s.rotMemCopy copy k a q).events = s.events := State.copyResult_events _ copy q _
@[simp] theorem State.writeCopy_events (s : State) (copy : Bool) (a : Word) (q : Reg8) (v : Byte) :
    (s.writeCopy copy a q v).events = s.events := State.copyResult_events _ copy q v
@[simp] theorem State.setXyh_events (s : State) (x : IdxReg) (v : Byte) : (s.setXyh x v).events = s.events := s.setXy_events x _
@[simp] theorem State.setXyl_events (s : State) (x : IdxReg) (v : Byte) : (s.setXyl x v).events = s.events := s.setXy_events x _
@[simp] theorem State.retiWith_events (s : State) (b : Bool) : (s.retiWith b).events = s.events := rfl
@[simp] theorem State.ldStep_events (s : State) (dir : BlockDir) : (s.ldStep dir).events = s.events := rfl
@[simp] theorem State.cpStep_events (s : State) (dir : BlockDir) : (s.cpStep dir).events = s.events := rfl

theorem repeatLoop_events {body : State → State} (hbody : ∀ s, (body s).events = s.events) (costs : Cycles)
    (mode : BlockRMode) (ended : State → Bool) (fuel : Nat) (first : Bool) (total : Nat) (s : State) :
    (repeatLoop costs mode body ended fuel first total s).events = s.events :=
  repeatLoop_keeps (P := fun t => t.events = s.events) (fun t h => (hbody t).trans h) (fun _ _ h => h) (fun _ _ h => h)
    (fun _ h => h) fuel first total s rfl

@[simp] theorem State.ldRepeat_events (s : State) (costs : Cycles) (mode : BlockRMode) (dir : BlockDir) :
    (s.ldRepeat costs mode dir).events = s.events := repeatLoop_events (State.ldStep_events · dir) ..
@[simp] theorem State.cpRepeat_events (s : State) (costs : Cycles) (mode : BlockRMode) (dir : BlockDir) :
    (s.cpRepeat costs mode dir).events = s.events := repeatLoop_events (State.cpStep_events · dir) ..

/-! ## How an instruction extends the event history (20_memory.md R63) -/

/-- `h'` is `h` followed by events that carry the PC `p`. -/
def ExtendsAt (p : Word) (h h' : List PortEvent) : Prop := ∃ new, h' = h ++ new ∧ ∀ e ∈ new, eventPc e = p

theorem ExtendsAt.refl (p : Word) (h : List PortEvent) : ExtendsAt p h h := ⟨[], (List.append_nil h).symm, by simp⟩

theorem ExtendsAt.trans {p : Word} {h1 h2 h3 : List PortEvent} (h12 : ExtendsAt p h1 h2) (h23 : ExtendsAt p h2 h3) :
    ExtendsAt p h1 h3 := by
  obtain ⟨new, rfl, hnew⟩ := h12
  obtain ⟨new', rfl, hnew'⟩ := h23
  refine ⟨new ++ new', List.append_assoc .., fun e he => ?_⟩
  exact (List.mem_append.1 he).elim (hnew e) (hnew' e)

theorem ExtendsAt.append_one {p : Word} {e : PortEvent} (he : eventPc e = p) (h : List PortEvent) : ExtendsAt p h (h ++ [e]) :=
  ⟨[e], rfl, fun _ hmem => List.mem_singleton.1 hmem ▸ he⟩

/-- While the loop runs, PC stands just past the instruction; it moves back only where the loop stops (47_block.md R308). -/
theorem repeatLoop_extendsAt {body : State → State} (hpc : ∀ s, (body s).pc = s.pc)
    (hbody : ∀ s, ExtendsAt s.portInstrPc s.events (body s).events) (costs : Cycles) (mode : BlockRMode) (ended : State → Bool)
    (fuel : Nat) :
    ∀ (first : Bool) (total : Nat) (s : State),
      ExtendsAt s.portInstrPc s.events (repeatLoop costs mode body ended fuel first total s).events := by
  induction fuel with
  | zero =>
    intro _ _ s
    exact .refl _ _
  | succ fuel ih =>
    intro first total s
    have hturn : ExtendsAt s.portInstrPc s.events (body (s.incR (blockIncR mode first))).events := hbody _
    have hstay : (body (s.incR (blockIncR mode first))).portInstrPc = s.portInstrPc := congrArg (· - 2) (hpc _)
    rw [repeatLoop_succ]
    generalize body (s.incR (blockIncR mode first)) = t at hturn hstay ⊢
    dsimp only
    split
    · exact hturn
    · split
      · exact hturn
      · exact hturn.trans (hstay ▸ ih false _ t)

theorem State.inStep_extendsAt (s : State) (carry : Bool) (dir : BlockDir) :
    ExtendsAt s.portInstrPc s.events (s.inStep carry dir).events := .append_one rfl _
theorem State.outStep_extendsAt (s : State) (carry : Bool) (dir : BlockDir) :
    ExtendsAt s.portInstrPc s.events (s.outStep carry dir).events := .append_one rfl _

theorem State.inRepeat_extendsAt (s : State) (carry : Bool) (costs : Cycles) (mode : BlockRMode) (dir : BlockDir) :
    ExtendsAt s.portInstrPc s.events (s.inRepeat carry costs mode dir).events :=
  repeatLoop_extendsAt (inStep_repeatBody carry dir).pc (State.inStep_extendsAt · carry dir) ..
theorem State.outRepeat_extendsAt (s : State) (carry : Bool) (costs : Cycles) (mode : BlockRMode) (dir : BlockDir) :
    ExtendsAt s.portInstrPc s.events (s.outRepeat carry costs mode dir).events :=
  repeatLoop_extendsAt (outStep_repeatBody carry dir).pc (State.outStep_extendsAt · carry dir) ..

/-- Whatever else it does, an instruction that does not reach the port space records nothing (20_memory.md R60). -/
theorem exec_events_of_not_usesPorts {i : Instr} (hi : isTransition i = false) (hports : usesPorts i = false) (s : State) :
    ∃ t, exec i s = .next t ∧ t.events = s.events := by
  cases i <;> cases hi <;> cases hports
  all_goals
    refine ⟨_, rfl, ?_⟩
    simp [apply_ite State.events]

/-- A port instruction records its events with the PC of the tag, the repeat forms in every turn. -/
theorem exec_extendsAt_of_usesPorts {i : Instr} (hports : usesPorts i = true) (s : State) :
    ∃ t, exec i s = .next t ∧ ExtendsAt s.portInstrPc s.events t.events := by
  cases i <;> cases hports
  case inRPortC r =>
    refine ⟨_, rfl, ?_⟩
    cases r <;> exact .append_one rfl _
  case inAPortN | inPortC | outPortNA | outPortCR | outPortCZero | ini | ind | outi | outd =>
    exact ⟨_, rfl, .append_one rfl _⟩
  case inir | indr => exact ⟨_, rfl, s.inRepeat_extendsAt ..⟩
  case otir | otdr => exact ⟨_, rfl, s.outRepeat_extendsAt ..⟩

/-! ## The port instructions are two bytes long (log 14) -/

/-- The decoder's row `d`, if it is a port instruction, takes `n` bytes: two, or one where its first byte, 0xED, is not counted. -/
def PortLength (n : Nat) (d : Decoded) : Prop := usesPorts d.instr = true → d.length = n

theorem PortLength.of_not_usesPorts {n : Nat} {d : Decoded} (h : usesPorts d.instr = false) : PortLength n d :=
  fun hports => absurd (h.symm.trans hports) Bool.false_ne_true

theorem usesPorts_decodeMain0 (op n1 n2 : Byte) : usesPorts (decodeMain0 op n1 n2).instr = false := by
  unfold decodeMain0
  dsimp only
  repeat' split
  all_goals rfl

theorem usesPorts_decodeMain1 (op : Byte) : usesPorts (decodeMain1 op).instr = false := by
  unfold decodeMain1
  split <;> rfl

theorem usesPorts_decodeMain2 (op : Byte) : usesPorts (decodeMain2 op).instr = false := by
  unfold decodeMain2
  split <;> cases aluOfField (opY op) <;> rfl

theorem usesPorts_decodeBitOps (op : Byte) : usesPorts (decodeBitOps op).instr = false := by
  unfold decodeBitOps
  dsimp only
  split
  · cases rotOfField (opY op) <;> rfl
  · cases rotOfField (opY op) <;> rfl
  all_goals rfl

theorem usesPorts_decodeIndexedBitOps (x : IdxReg) (d op : Byte) : usesPorts (decodeIndexedBitOps x d op).instr = false := by
  unfold decodeIndexedBitOps
  dsimp only
  split
  · cases rotOfField (opY op) <;> cases x <;> rfl
  · cases rotOfField (opY op) <;> cases x <;> rfl
  all_goals cases x <;> rfl

theorem usesPorts_decodeIndexed (x : IdxReg) (op n1 n2 : Byte) : usesPorts (decodeIndexed x op n1 n2).instr = false := by
  unfold decodeIndexed
  split
  · unfold decodeIndexed0
    dsimp only
    split <;> cases x <;> rfl
  · unfold decodeIndexed1
    repeat' split
    all_goals cases x <;> rfl
  · unfold decodeIndexed2
    dsimp only
    split
    iterate 3 cases aluOfField (opY op) <;> cases x <;> rfl
    all_goals cases x <;> rfl
  · unfold decodeIndexed3
    split
    case h_6 => exact usesPorts_decodeIndexedBitOps x n1 n2
    all_goals cases x <;> rfl

/-- Of the rows after 0xED only the loads of a pair from and to memory take more than the one byte. -/
theorem portLength_decodeExtended (op n1 n2 : Byte) : PortLength 1 (decodeExtended op n1 n2) := by
  unfold decodeExtended
  split
  case h_2 =>
    unfold decodeExtended1
    dsimp only
    split
    case h_4 => split <;> exact .of_not_usesPorts rfl
    all_goals
      repeat' split
      all_goals exact fun _ => rfl
  all_goals exact fun _ => rfl

theorem portLength_decodeMain3 (op n1 n2 n3 : Byte) : PortLength 2 (decodeMain3 op n1 n2 n3) := by
  unfold decodeMain3
  dsimp only
  split
  case h_4 =>
    split
    case h_2 => exact .of_not_usesPorts (usesPorts_decodeBitOps n1)
    case h_3 | h_4 => exact fun _ => rfl
    all_goals exact .of_not_usesPorts rfl
  case h_6 =>
    split
    case h_6 => exact .of_not_usesPorts (usesPorts_decodeIndexed .ix n1 n2 n3)
    case h_7 => exact fun hports => congrArg (· + 1) (portLength_decodeExtended n1 n2 n3 hports)
    case h_8 => exact .of_not_usesPorts (usesPorts_decodeIndexed .iy n1 n2 n3)
    all_goals exact .of_not_usesPorts rfl
  case h_7 => cases aluOfField (opY op) <;> exact .of_not_usesPorts rfl
  case h_2 => split <;> exact .of_not_usesPorts rfl
  all_goals exact .of_not_usesPorts rfl

theorem portLength_decodeBytes (b0 b1 b2 b3 : Byte) : PortLength 2 (decodeBytes b0 b1 b2 b3) := by
  unfold decodeBytes
  split
  · exact .of_not_usesPorts (usesPorts_decodeMain0 b0 b1 b2)
  · exact .of_not_usesPorts (usesPorts_decodeMain1 b0)
  · exact .of_not_usesPorts (usesPorts_decodeMain2 b0)
  · exact portLength_decodeMain3 b0 b1 b2 b3

/-- In the meaning of a port instruction, the tag's PC is the one it was fetched from. -/
theorem State.fetchNext_portInstrPc {s : State} (hports : usesPorts s.decodeAtPc.instr = true) :
    s.fetchNext.portInstrPc = s.pc := by
  have hlen : s.decodeAtPc.length = 2 := portLength_decodeBytes _ _ _ _ hports
  rw [State.portInstrPc, State.fetchNext, State.afterFetch_pc, hlen]
  exact BitVec.add_sub_cancel s.pc 2

theorem State.acceptInterrupt_events (s : State) (P : Params) : (s.acceptInterrupt P).events = s.events := by
  unfold State.acceptInterrupt
  dsimp only
  split <;> rfl

theorem State.opportunity_events (s : State) (P : Params) : (s.opportunity P).events = s.events := by
  obtain ⟨-, ho⟩ | ⟨-, -, ho⟩ | ⟨-, -, ho⟩ := s.opportunity_cases P <;> rw [ho]
  exact s.acceptInterrupt_events P

/-! ## The obligations -/

/-- Settles O10: memory after a step is reached by stores (step_stores), and each store keeps the canonical form. -/
theorem stepKeepsMemoryCanonical : Obligations.StepKeepsMemoryCanonical := by
  unfold Obligations.StepKeepsMemoryCanonical
  intro s t hs h
  exact (step_stores h).wf hs

/-- Settles O13: memory after a step is reached by stores to writable banks (step_stores), none of which lies at an address of a
read-only bank. -/
theorem readOnlyBanksNeverChange : Obligations.ReadOnlyBanksNeverChange := by
  unfold Obligations.ReadOnlyBanksNeverChange
  intro s t x h
  cases hbank : Config.bankReadOnly (bankOf x)
  · exact .inr rfl
  · have hx : writable x = false := by rw [writable, hbank, Bool.not_true]
    exact .inl ((step_stores h).read_of_not_writable hx)

/-- Settles O17: the opportunity and the wait record nothing; an instruction that does not use the ports records nothing
(exec_events_of_not_usesPorts); one that does tags its events with PC - 2 (exec_extendsAt_of_usesPorts), which is where it was fetched
from, since it is two bytes long (State.fetchNext_portInstrPc). -/
theorem historyGrowsByPortInstructions : Obligations.HistoryGrowsByPortInstructions := by
  unfold Obligations.HistoryGrowsByPortInstructions
  intro s t h
  rw [← s.opportunity_events Params.default]
  obtain ⟨-, hs⟩ | ⟨hrun, hs⟩ := step_cases s
  · rw [hs] at h
    cases h
    exact ⟨[], (List.append_nil _).symm, by simp⟩
  · cases hports : usesPorts s.opportunity.decodeAtPc.instr
    · obtain ⟨t', ht', hevents⟩ :=
        exec_events_of_not_usesPorts (isTransition_decodeAtPc s.opportunity) hports s.opportunity.fetchNext
      rw [hs, ht'] at h
      cases h
      exact ⟨[], hevents.trans (List.append_nil _).symm, by simp⟩
    · obtain ⟨t', ht', new, hevents, htags⟩ := exec_extendsAt_of_usesPorts hports s.opportunity.fetchNext
      rw [hs, ht'] at h
      cases h
      rw [State.fetchNext_portInstrPc hports] at htags
      exact ⟨new, hevents, fun _ => ⟨hrun, rfl⟩, htags⟩

/-- Settles O19: by the value of a word made of two bytes (wordOf_toNat). -/
theorem wordReadIsLittleEndianAndWraps : Obligations.WordReadIsLittleEndianAndWraps := by
  unfold Obligations.WordReadIsLittleEndianAndWraps
  intro s
  refine ⟨fun a => ?_, fun hlow hhigh => ?_⟩
  · have hnext : BitVec.ofNat 16 (a.toNat + 1) = a + 1 := by bv_omega
    rw [hnext, State.readWord, wordOf_toNat]
  · have hwrap : (0xFFFF : Word) + 1 = 0x0000 := rfl
    rw [State.readWord, hwrap, hlow, hhigh]
    rfl

end Sys2Proof.Machine
end

section
/-! SUPPORT and PROOFS. The family 30_encoding.md: what the four bytes that begin with an encoding decode to, which bytes a decoded
instruction came from, and what the decode transitions run. Settles O1, O2, O3, O4 and O7. -/

namespace Sys2Proof.Machine

/-! ## An operation byte and its fields (30_encoding.md R76 to R78) -/

/-- A byte of the quarter x is made from x, y and z. -/
theorem exists_eq_opByte {op : Byte} {x : Fin 4} (hx : opX op = x) : ∃ y z, op = opByte x y z :=
  ⟨opY op, opZ op, by rw [← hx, opByte_fields]⟩

/-- A byte is made from its fields x, y and z. -/
theorem exists_fields (op : Byte) : ∃ x y z, op = opByte x y z := ⟨_, _, _, (opByte_fields op).symm⟩

/-- The field y seen as p, the field of a register pair, and q. -/
theorem exists_opByte_eq_opByteP (x : Fin 4) (y z : Fin 8) : ∃ (dd : Pair) (q : Bool), opByte x y z = opByteP x dd.field q z := by
  have h := opByteP_fields (opByte x y z)
  rw [opX_opByte, opZ_opByte] at h
  exact ⟨pairOfField (opP (opByte x y z)), opQ (opByte x y z), by rw [pairOfField_surj, h]⟩

theorem eq_six_of_reg8OfField {y : Fin 8} (h : reg8OfField y = none) : y = 6 := by revert y; decide

theorem RegX.exists_eq_field (y : Fin 8) : (∃ r : RegX, y = r.field) ∨ y = 6 := by
  match y with
  | 0 => exact .inl ⟨.b, rfl⟩
  | 1 => exact .inl ⟨.c, rfl⟩
  | 2 => exact .inl ⟨.d, rfl⟩
  | 3 => exact .inl ⟨.e, rfl⟩
  | 4 => exact .inl ⟨.xyh, rfl⟩
  | 5 => exact .inl ⟨.xyl, rfl⟩
  | 6 => exact .inr rfl
  | 7 => exact .inl ⟨.a, rfl⟩

theorem append_wordOf (bs : List Byte) (n1 n2 : Byte) :
    bs ++ [loByte (wordOf n2 n1), hiByte (wordOf n2 n1)] = bs ++ [n1, n2] := by
  rw [loByte_wordOf, hiByte_wordOf]

/-! ## What follows a prefix byte (30_encoding.md R71) -/

/-- A row seen from the prefix byte before it, which is one byte and one M1 fetch more. -/
def afterPrefix (d : Decoded) : Decoded := ⟨d.instr, d.length + 1, d.m1 + 1⟩

theorem decodeBytes_prefixByte (x : IdxReg) (op n1 n2 : Byte) :
    decodeBytes (prefixByte x) op n1 n2 = afterPrefix (decodeIndexed x op n1 n2) := by cases x <;> rfl

theorem decodeIndexed_cb (x : IdxReg) (d op : Byte) : decodeIndexed x 0xCB d op = afterPrefix (decodeIndexedBitOps x d op) := rfl

theorem decodeBytes_prefixByte_cb (x : IdxReg) (d op : Byte) :
    decodeBytes (prefixByte x) 0xCB d op = afterPrefix (afterPrefix (decodeIndexedBitOps x d op)) := by
  rw [decodeBytes_prefixByte, decodeIndexed_cb]

/-! ## The rows on a bit number (30_encoding.md R84, R88) -/

theorem decodeBitOps_bit (b : Fin 8) (r : Reg8) : decodeBitOps (opByte 1 b r.field) = ⟨.bitBR b r, 1, 1⟩ := by simp [decodeBitOps]
theorem decodeBitOps_res (b : Fin 8) (r : Reg8) : decodeBitOps (opByte 2 b r.field) = ⟨.resBR b r, 1, 1⟩ := by simp [decodeBitOps]
theorem decodeBitOps_set (b : Fin 8) (r : Reg8) : decodeBitOps (opByte 3 b r.field) = ⟨.setBR b r, 1, 1⟩ := by simp [decodeBitOps]
theorem decodeBitOps_bitMem (b : Fin 8) : decodeBitOps (opByte 1 b 6) = ⟨.bitBMemHl b, 1, 1⟩ := by simp [decodeBitOps]
theorem decodeBitOps_resMem (b : Fin 8) : decodeBitOps (opByte 2 b 6) = ⟨.resBMemHl b, 1, 1⟩ := by simp [decodeBitOps]
theorem decodeBitOps_setMem (b : Fin 8) : decodeBitOps (opByte 3 b 6) = ⟨.setBMemHl b, 1, 1⟩ := by simp [decodeBitOps]

/-- BIT ignores the field z (45_rotate_bit.md R263). -/
theorem decodeIndexedBitOps_bit (x : IdxReg) (d : Byte) (b z : Fin 8) :
    decodeIndexedBitOps x d (opByte 1 b z) = ⟨x.pick (.bitBMemIxd b d) (.bitBMemIyd b d), 2, 0⟩ := by
  simp only [decodeIndexedBitOps, opX_opByte, opY_opByte, opZ_opByte]

theorem decodeIndexedBitOps_res (x : IdxReg) (d : Byte) (b : Fin 8) :
    decodeIndexedBitOps x d (opByte 2 b 6) = ⟨x.pick (.resBMemIxd b d) (.resBMemIyd b d), 2, 0⟩ := by simp [decodeIndexedBitOps]
theorem decodeIndexedBitOps_set (x : IdxReg) (d : Byte) (b : Fin 8) :
    decodeIndexedBitOps x d (opByte 3 b 6) = ⟨x.pick (.setBMemIxd b d) (.setBMemIyd b d), 2, 0⟩ := by simp [decodeIndexedBitOps]
theorem decodeIndexedBitOps_resCopy (x : IdxReg) (d : Byte) (b : Fin 8) (r : Reg8) :
    decodeIndexedBitOps x d (opByte 2 b r.field) = ⟨x.pick (.resBMemIxdR b d r) (.resBMemIydR b d r), 2, 0⟩ := by
  simp [decodeIndexedBitOps]
theorem decodeIndexedBitOps_setCopy (x : IdxReg) (d : Byte) (b : Fin 8) (r : Reg8) :
    decodeIndexedBitOps x d (opByte 3 b r.field) = ⟨x.pick (.setBMemIxdR b d r) (.setBMemIydR b d r), 2, 0⟩ := by
  simp [decodeIndexedBitOps]

/-! ## The bytes a row was decoded from -/

/-- After the bytes `pre`, the row `d` was decoded from the first of `bytes`: with `pre` they are the encoding of its instruction. -/
structure ReadsBack (pre bytes : List Byte) (d : Decoded) : Prop where
  encode_eq : encode d.instr = pre ++ bytes.take d.length
  length_eq : (bytes.take d.length).length = d.length
  wellFormed : d.instr.wellFormed = true
  m1_eq : m1Fetches (encode d.instr) = pre.length + d.m1

theorem ReadsBack.afterPrefix {pre bytes : List Byte} {p : Byte} {d : Decoded} (h : ReadsBack (pre ++ [p]) bytes d) :
    ReadsBack pre (p :: bytes) (afterPrefix d) where
  encode_eq := by rw [Machine.afterPrefix, h.encode_eq, List.take_succ_cons, List.append_assoc, List.singleton_append]
  length_eq := by rw [Machine.afterPrefix, List.take_succ_cons, List.length_cons, h.length_eq]
  wellFormed := h.wellFormed
  m1_eq := by
    rw [Machine.afterPrefix, h.m1_eq, List.length_append, List.length_singleton]
    exact Nat.add_right_comm ..

theorem ReadsBack.length_le {pre bytes : List Byte} {d : Decoded} (h : ReadsBack pre bytes d) : d.length ≤ bytes.length :=
  h.length_eq ▸ List.length_take_le' ..

theorem ReadsBack.append {pre bytes : List Byte} {d : Decoded} (h : ReadsBack pre bytes d) (more : List Byte) :
    ReadsBack pre (bytes ++ more) d where
  encode_eq := by rw [h.encode_eq, List.take_append_of_le_length h.length_le]
  length_eq := by rw [List.take_append_of_le_length h.length_le, h.length_eq]
  wellFormed := h.wellFormed
  m1_eq := h.m1_eq

theorem readsBack_decodeMain0 {op : Byte} (hx : opX op = 0) (n1 n2 : Byte) :
    ReadsBack [] [op, n1, n2] (decodeMain0 op n1 n2) := by
  obtain ⟨y, z, rfl⟩ := exists_eq_opByte hx
  simp only [decodeMain0, opY_opByte, opZ_opByte]
  split
  case h_2 =>
    obtain ⟨dd, q, hop⟩ := exists_opByte_eq_opByteP 0 y 1
    simp only [hop, opP_opByteP, opQ_opByteP, pairOfField_field]
    cases q
    · exact ⟨append_wordOf [_] n1 n2, rfl, rfl, by cases dd <;> rfl⟩
    · exact ⟨rfl, rfl, rfl, rfl⟩
  case h_4 =>
    obtain ⟨dd, q, hop⟩ := exists_opByte_eq_opByteP 0 y 3
    simp only [hop, opP_opByteP, opQ_opByteP, pairOfField_field]
    cases q <;> exact ⟨rfl, rfl, rfl, rfl⟩
  case h_3 =>
    split
    case h_5 | h_6 | h_7 | h_8 => exact ⟨append_wordOf [_] n1 n2, rfl, rfl, rfl⟩
    all_goals exact ⟨rfl, rfl, rfl, rfl⟩
  case h_5 | h_6 | h_7 =>
    split
    case h_1 r hr =>
      obtain rfl := Reg8.field_of_reg8OfField hr
      cases r <;> exact ⟨rfl, rfl, rfl, rfl⟩
    case h_2 hr =>
      obtain rfl := eq_six_of_reg8OfField hr
      exact ⟨rfl, rfl, rfl, rfl⟩
  all_goals split <;> exact ⟨rfl, rfl, rfl, rfl⟩

theorem readsBack_decodeMain1 {op : Byte} (hx : opX op = 1) : ReadsBack [] [op] (decodeMain1 op) := by
  obtain ⟨y, z, rfl⟩ := exists_eq_opByte hx
  simp only [decodeMain1, opY_opByte, opZ_opByte]
  split
  case h_1 r r' hr hr' =>
    obtain rfl := Reg8.field_of_reg8OfField hr
    obtain rfl := Reg8.field_of_reg8OfField hr'
    exact ⟨rfl, rfl, rfl, rfl⟩
  case h_2 r hr h6 =>
    obtain rfl := Reg8.field_of_reg8OfField hr
    obtain rfl := eq_six_of_reg8OfField h6
    exact ⟨rfl, rfl, rfl, rfl⟩
  case h_3 r h6 hr =>
    obtain rfl := Reg8.field_of_reg8OfField hr
    obtain rfl := eq_six_of_reg8OfField h6
    exact ⟨rfl, rfl, rfl, rfl⟩
  case h_4 h6 h6' =>
    obtain rfl := eq_six_of_reg8OfField h6
    obtain rfl := eq_six_of_reg8OfField h6'
    exact ⟨rfl, rfl, rfl, rfl⟩

theorem readsBack_decodeMain2 {op : Byte} (hx : opX op = 2) : ReadsBack [] [op] (decodeMain2 op) := by
  obtain ⟨y, z, rfl⟩ := exists_eq_opByte hx
  simp only [decodeMain2, opY_opByte, opZ_opByte]
  split
  case h_1 r hr =>
    obtain rfl := Reg8.field_of_reg8OfField hr
    fin_cases y <;> exact ⟨rfl, rfl, rfl, rfl⟩
  case h_2 hr =>
    obtain rfl := eq_six_of_reg8OfField hr
    fin_cases y <;> exact ⟨rfl, rfl, rfl, rfl⟩

theorem readsBack_decodeBitOps (op : Byte) : ReadsBack [0xCB] [op] (decodeBitOps op) := by
  obtain ⟨x, y, z, rfl⟩ := exists_fields op
  simp only [decodeBitOps, opX_opByte, opY_opByte, opZ_opByte]
  split
  case h_1 r hr =>
    obtain rfl := Reg8.field_of_reg8OfField hr
    fin_cases y <;> exact ⟨rfl, rfl, rfl, rfl⟩
  case h_2 hr =>
    obtain rfl := eq_six_of_reg8OfField hr
    fin_cases y <;> exact ⟨rfl, rfl, rfl, rfl⟩
  case h_3 r hr | h_5 r hr | h_7 r hr =>
    obtain rfl := Reg8.field_of_reg8OfField hr
    exact ⟨rfl, rfl, rfl, rfl⟩
  case h_4 hr | h_6 hr | h_8 hr =>
    obtain rfl := eq_six_of_reg8OfField hr
    exact ⟨rfl, rfl, rfl, rfl⟩

/-- BIT is the one row of this context with more than one encoding (45_rotate_bit.md R263). -/
theorem readsBack_decodeIndexedBitOps (x : IdxReg) (d : Byte) {op : Byte} (hbit : opX op = 1 → opZ op = 6) :
    ReadsBack [prefixByte x, 0xCB] [d, op] (decodeIndexedBitOps x d op) := by
  obtain ⟨u, y, z, rfl⟩ := exists_fields op
  simp only [opX_opByte, opZ_opByte] at hbit
  simp only [decodeIndexedBitOps, opX_opByte, opY_opByte, opZ_opByte]
  split
  case h_1 hr =>
    obtain rfl := eq_six_of_reg8OfField hr
    cases x <;> fin_cases y <;> exact ⟨rfl, rfl, rfl, rfl⟩
  case h_2 r hr =>
    obtain rfl := Reg8.field_of_reg8OfField hr
    cases x <;> fin_cases y <;> exact ⟨rfl, rfl, rfl, rfl⟩
  case h_3 =>
    obtain rfl := hbit rfl
    cases x <;> exact ⟨rfl, rfl, rfl, rfl⟩
  case h_4 hr | h_6 hr =>
    obtain rfl := eq_six_of_reg8OfField hr
    cases x <;> exact ⟨rfl, rfl, rfl, rfl⟩
  case h_5 r hr | h_7 r hr =>
    obtain rfl := Reg8.field_of_reg8OfField hr
    cases x <;> exact ⟨rfl, rfl, rfl, rfl⟩

/-! ## The Extended context (30_encoding.md R85) -/

/-- The second encodings after 0xED (30_encoding.md R85, D23). -/
def edAliases : List Byte :=
  [0x4C, 0x54, 0x5C, 0x64, 0x6C, 0x74, 0x7C, 0x55, 0x65, 0x75, 0x5D, 0x6D, 0x7D, 0x4E, 0x66, 0x6E, 0x76, 0x7E]

theorem decodeExtended_edNop {op : Byte} (h : isEdNop op = true) (n1 n2 : Byte) :
    decodeExtended op n1 n2 = ⟨.edNop op, 1, 1⟩ := by
  obtain ⟨x, y, z, rfl⟩ := exists_fields op
  simp only [decodeExtended, opX_opByte]
  split
  · rfl
  · obtain ⟨rfl, rfl | rfl⟩ := (by decide : ∀ y z, isEdNop (opByte 1 y z) = true → z = 7 ∧ (y = 6 ∨ y = 7)) y z h <;> rfl
  · exact (by decide : ∀ y z, isEdNop (opByte 2 y z) = true →
      decodeExtended2 (opByte 2 y z) = ⟨.edNop (opByte 2 y z), 1, 1⟩) y z h
  · rfl

theorem readsBack_decodeExtended1 {op : Byte} (hx : opX op = 1) (hop : op ∉ edAliases) (n1 n2 : Byte) :
    ReadsBack [0xED] [op, n1, n2] (decodeExtended1 op n1 n2) := by
  obtain ⟨y, z, rfl⟩ := exists_eq_opByte hx
  simp only [decodeExtended1, opY_opByte, opZ_opByte]
  split
  case h_1 | h_2 =>
    split
    case h_1 r hr =>
      obtain rfl := Reg8.field_of_reg8OfField hr
      exact ⟨rfl, rfl, rfl, rfl⟩
    case h_2 hr =>
      obtain rfl := eq_six_of_reg8OfField hr
      exact ⟨rfl, rfl, rfl, rfl⟩
  case h_3 =>
    obtain ⟨dd, q, h⟩ := exists_opByte_eq_opByteP 1 y 2
    simp only [h, opP_opByteP, opQ_opByteP, pairOfField_field]
    cases q <;> exact ⟨rfl, rfl, rfl, rfl⟩
  case h_4 =>
    obtain ⟨dd, q, h⟩ := exists_opByte_eq_opByteP 1 y 3
    simp only [h, opP_opByteP, opQ_opByteP, pairOfField_field]
    cases q <;> exact ⟨append_wordOf [_, _] n1 n2, rfl, rfl, rfl⟩
  case h_5 =>
    obtain rfl := (by decide : ∀ y, opByte 1 y 4 ∉ edAliases → y = 0) y hop
    exact ⟨rfl, rfl, rfl, rfl⟩
  case h_6 =>
    obtain rfl | rfl := (by decide : ∀ y, opByte 1 y 5 ∉ edAliases → y = 0 ∨ y = 1) y hop <;>
      exact ⟨rfl, rfl, rfl, rfl⟩
  case h_7 =>
    obtain rfl | rfl | rfl := (by decide : ∀ y, opByte 1 y 6 ∉ edAliases → y = 0 ∨ y = 2 ∨ y = 3) y hop <;>
      exact ⟨rfl, rfl, rfl, rfl⟩
  case h_8 => split <;> exact ⟨rfl, rfl, rfl, rfl⟩

theorem readsBack_decodeExtended2 {op : Byte} (hx : opX op = 2) (hnop : isEdNop op = false) :
    ReadsBack [0xED] [op] (decodeExtended2 op) := by
  obtain ⟨y, z, rfl⟩ := exists_eq_opByte hx
  obtain ⟨rfl | rfl | rfl | rfl, rfl | rfl | rfl | rfl⟩ :=
    (by decide : ∀ y z, isEdNop (opByte 2 y z) = false → (y = 4 ∨ y = 5 ∨ y = 6 ∨ y = 7) ∧ (z = 0 ∨ z = 1 ∨ z = 2 ∨ z = 3))
      y z hnop <;>
    exact ⟨rfl, rfl, rfl, rfl⟩

theorem readsBack_decodeExtended {op : Byte} (hop : op ∉ edAliases) (n1 n2 : Byte) :
    ReadsBack [0xED] [op, n1, n2] (decodeExtended op n1 n2) := by
  cases hnop : isEdNop op
  · unfold decodeExtended
    split
    case h_1 hx => exact absurd hnop ((by decide : ∀ op, opX op = 0 → isEdNop op ≠ false) op hx)
    case h_2 hx => exact readsBack_decodeExtended1 hx hop n1 n2
    case h_3 hx => exact (readsBack_decodeExtended2 hx hnop).append [n1, n2]
    case h_4 hx => exact absurd hnop ((by decide : ∀ op, opX op = 3 → isEdNop op ≠ false) op hx)
  · rw [decodeExtended_edNop hnop]
    exact ⟨rfl, rfl, hnop, rfl⟩

/-! ## The Indexed context (30_encoding.md R86, R87) -/

/-- The row `d` that follows 0xDD or 0xFD: of a byte with an indexed form it reads back, and for any other the prefix stands alone. -/
def IndexedRow (x : IdxReg) (op n1 n2 : Byte) (d : Decoded) : Prop :=
  (hasIndexedForm op = true ∧ ReadsBack [prefixByte x] [op, n1, n2] d) ∨ (hasIndexedForm op = false ∧ d = lonePrefix x)

/-- The fields z and y of the bytes below 0x40 with an indexed form (30_encoding.md R86). -/
def indexedFields0 : List (Fin 8 × Fin 8) :=
  [(1, 1), (1, 3), (1, 4), (1, 5), (1, 7), (2, 4), (2, 5), (3, 4), (3, 5), (4, 4), (4, 5), (4, 6), (5, 4), (5, 5), (5, 6), (6, 4), (6, 5),
   (6, 6)]

/-- The fields y and z of the bytes from 0xC0 on with an indexed form, and of 0xCB, which goes on to the Indexed-bit-ops context
(R86, R71). -/
def indexedFields3 : List (Fin 8 × Fin 8) := [(4, 1), (4, 3), (4, 5), (5, 1), (7, 1), (1, 3)]

theorem indexedRow_decodeIndexed0 (x : IdxReg) {op : Byte} (hx : opX op = 0) (n1 n2 : Byte) :
    IndexedRow x op n1 n2 (decodeIndexed0 x op n1 n2) := by
  obtain ⟨y, z, rfl⟩ := exists_eq_opByte hx
  simp only [decodeIndexed0, opY_opByte, opZ_opByte]
  split
  case h_5 | h_6 | h_7 => cases x <;> exact .inl ⟨rfl, append_wordOf [_, _] n1 n2, rfl, rfl, rfl⟩
  case h_19 =>
    have hrow : (z, y) ∉ indexedFields0 := by
      simp only [indexedFields0, List.mem_cons, Prod.mk.injEq, List.not_mem_nil, or_false, not_or, not_and]
      and_intros <;> assumption
    exact .inr ⟨(by decide : ∀ y z, (z, y) ∉ indexedFields0 → hasIndexedForm (opByte 0 y z) = false) y z hrow, rfl⟩
  all_goals cases x <;> exact .inl ⟨rfl, rfl, rfl, rfl, rfl⟩

theorem indexedRow_decodeIndexed1 (x : IdxReg) {op : Byte} (hx : opX op = 1) (n1 n2 : Byte) :
    IndexedRow x op n1 n2 (decodeIndexed1 x op n1) := by
  obtain ⟨y, z, rfl⟩ := exists_eq_opByte hx
  obtain ⟨r, rfl⟩ | rfl := RegX.exists_eq_field y <;> obtain ⟨r', rfl⟩ | rfl := RegX.exists_eq_field z
  · cases r
    case xyh | xyl => cases r' <;> cases x <;> exact .inl ⟨rfl, rfl, rfl, rfl, rfl⟩
    all_goals
      cases r'
      case xyh | xyl => cases x <;> exact .inl ⟨rfl, rfl, rfl, rfl, rfl⟩
      all_goals exact .inr ⟨rfl, rfl⟩
  · cases r <;> cases x <;> exact .inl ⟨rfl, rfl, rfl, rfl, rfl⟩
  · cases r' <;> cases x <;> exact .inl ⟨rfl, rfl, rfl, rfl, rfl⟩
  · exact .inr ⟨rfl, rfl⟩

theorem indexedRow_decodeIndexed2 (x : IdxReg) {op : Byte} (hx : opX op = 2) (n1 n2 : Byte) :
    IndexedRow x op n1 n2 (decodeIndexed2 x op n1) := by
  obtain ⟨y, z, rfl⟩ := exists_eq_opByte hx
  simp only [decodeIndexed2, opY_opByte, opZ_opByte]
  split
  case h_1 | h_2 | h_3 => cases x <;> fin_cases y <;> exact .inl ⟨rfl, rfl, rfl, rfl, rfl⟩
  all_goals fin_cases y <;> exact .inr ⟨rfl, rfl⟩

theorem indexedRow_decodeIndexed3 (x : IdxReg) {op : Byte} (hx : opX op = 3) (hcb : op ≠ 0xCB) (n1 n2 : Byte) :
    IndexedRow x op n1 n2 (decodeIndexed3 x op n1 n2) := by
  obtain ⟨y, z, rfl⟩ := exists_eq_opByte hx
  simp only [decodeIndexed3, opY_opByte, opZ_opByte]
  split
  case h_6 => exact absurd rfl hcb
  case h_7 =>
    have hrow : (y, z) ∉ indexedFields3 := by
      simp only [indexedFields3, List.mem_cons, Prod.mk.injEq, List.not_mem_nil, or_false, not_or, not_and]
      and_intros <;> assumption
    exact .inr ⟨(by decide : ∀ y z, (y, z) ∉ indexedFields3 → hasIndexedForm (opByte 3 y z) = false) y z hrow, rfl⟩
  all_goals cases x <;> exact .inl ⟨rfl, rfl, rfl, rfl, rfl⟩

theorem indexedRow_decodeIndexed (x : IdxReg) {op : Byte} (hcb : op ≠ 0xCB) (n1 n2 : Byte) :
    IndexedRow x op n1 n2 (decodeIndexed x op n1 n2) := by
  unfold decodeIndexed
  split
  · exact indexedRow_decodeIndexed0 x ‹_› n1 n2
  · exact indexedRow_decodeIndexed1 x ‹_› n1 n2
  · exact indexedRow_decodeIndexed2 x ‹_› n1 n2
  · exact indexedRow_decodeIndexed3 x ‹_› hcb n1 n2

/-- A byte without an indexed form leaves the prefix before it alone (30_encoding.md R87). -/
theorem decodeIndexed_lonePrefix (x : IdxReg) {op : Byte} (hform : hasIndexedForm op = false) (hcb : op ≠ 0xCB) (n1 n2 : Byte) :
    decodeIndexed x op n1 n2 = lonePrefix x := by
  obtain ⟨hform', -⟩ | ⟨-, hlone⟩ := indexedRow_decodeIndexed x hcb n1 n2
  · exact absurd (hform.symm.trans hform') Bool.false_ne_true
  · exact hlone

theorem IndexedRow.readsBack {x : IdxReg} {op n1 n2 : Byte} {d : Decoded} (h : IndexedRow x op n1 n2 d) :
    ReadsBack [prefixByte x] [op, n1, n2] d := by
  obtain ⟨-, h⟩ | ⟨-, rfl⟩ := h
  · exact h
  · cases x <;> exact ⟨rfl, rfl, rfl, rfl⟩

/-! ## Every context (30_encoding.md R71) -/

theorem not_mem_edAliases {b1 b3 : Byte} (hs : isSecondEncoding 0xED b1 b3 = false) : b1 ∉ edAliases := by
  simpa [isSecondEncoding, edAliases] using hs

theorem isSecondEncoding_prefixByte_cb (x : IdxReg) (b3 : Byte) :
    isSecondEncoding (prefixByte x) 0xCB b3 = (opX b3 == 1 && opZ b3 != 6) := by
  cases x <;> simp [isSecondEncoding, prefixByte]

theorem readsBack_decodeIndexed (x : IdxReg) {op n2 : Byte} (hs : isSecondEncoding (prefixByte x) op n2 = false) (n1 : Byte) :
    ReadsBack [prefixByte x] [op, n1, n2] (decodeIndexed x op n1 n2) := by
  by_cases hcb : op = 0xCB
  · subst hcb
    rw [isSecondEncoding_prefixByte_cb] at hs
    rw [decodeIndexed_cb]
    exact (readsBack_decodeIndexedBitOps x n1 (by simpa using hs)).afterPrefix (pre := [prefixByte x])
  · exact (indexedRow_decodeIndexed x hcb n1 n2).readsBack

theorem readsBack_decodeMain3 {b0 : Byte} (hx : opX b0 = 3) {b1 b3 : Byte} (hs : isSecondEncoding b0 b1 b3 = false) (b2 : Byte) :
    ReadsBack [] [b0, b1, b2, b3] (decodeMain3 b0 b1 b2 b3) := by
  obtain ⟨y, z, rfl⟩ := exists_eq_opByte hx
  simp only [decodeMain3, opY_opByte, opZ_opByte]
  split
  case h_1 => exact ⟨by simp [encode], rfl, rfl, rfl⟩
  case h_2 => split <;> exact ⟨rfl, rfl, rfl, rfl⟩
  case h_3 | h_5 => fin_cases y <;> exact ⟨append_wordOf [_] b1 b2, rfl, rfl, rfl⟩
  case h_4 =>
    split
    case h_1 => exact ⟨append_wordOf [_] b1 b2, rfl, rfl, rfl⟩
    case h_2 => exact ((readsBack_decodeBitOps b1).append [b2, b3]).afterPrefix (pre := [])
    all_goals exact ⟨rfl, rfl, rfl, rfl⟩
  case h_6 =>
    split
    case h_5 => exact ⟨append_wordOf [_] b1 b2, rfl, rfl, rfl⟩
    case h_6 => exact (readsBack_decodeIndexed .ix hs b2).afterPrefix (pre := [])
    case h_7 => exact (readsBack_decodeExtended (not_mem_edAliases hs) b2 b3).afterPrefix (pre := [])
    case h_8 => exact (readsBack_decodeIndexed .iy hs b2).afterPrefix (pre := [])
    all_goals exact ⟨rfl, rfl, rfl, rfl⟩
  case h_7 | h_8 => fin_cases y <;> exact ⟨rfl, rfl, rfl, rfl⟩

theorem readsBack_decodeBytes {b0 b1 b3 : Byte} (hs : isSecondEncoding b0 b1 b3 = false) (b2 : Byte) :
    ReadsBack [] [b0, b1, b2, b3] (decodeBytes b0 b1 b2 b3) := by
  unfold decodeBytes
  split
  · exact (readsBack_decodeMain0 ‹_› b1 b2).append [b3]
  · exact (readsBack_decodeMain1 ‹_›).append [b1, b2, b3]
  · exact (readsBack_decodeMain2 ‹_›).append [b1, b2, b3]
  · exact readsBack_decodeMain3 ‹_› hs b2

/-! ## What a decoded instruction is -/

/-- The row `d` is of a well-formed instruction, with the length and the M1 fetches of its encoding (30_encoding.md R90, R95). -/
def MeasuresEncoding (d : Decoded) : Prop :=
  d.instr.wellFormed = true ∧ d.length = (encode d.instr).length ∧ d.m1 = m1Fetches (encode d.instr)

theorem ReadsBack.measuresEncoding {bytes : List Byte} {d : Decoded} (h : ReadsBack [] bytes d) : MeasuresEncoding d := by
  refine ⟨h.wellFormed, ?_, ?_⟩
  · rw [h.encode_eq, List.nil_append, h.length_eq]
  · rw [h.m1_eq, List.length_nil, Nat.zero_add]

theorem decodeBytes_bit_xyd (x : IdxReg) (d : Byte) (b z : Fin 8) :
    decodeBytes (prefixByte x) 0xCB d (opByte 1 b z) = ⟨x.pick (.bitBMemIxd b d) (.bitBMemIyd b d), 4, 2⟩ := by
  rw [decodeBytes_prefixByte_cb, decodeIndexedBitOps_bit]
  rfl

theorem isSecondEncoding_cases {b0 b1 b3 : Byte} (h : isSecondEncoding b0 b1 b3 = true) :
    (b0 = 0xED ∧ b1 ∈ edAliases) ∨ ∃ (x : IdxReg) (b z : Fin 8), b0 = prefixByte x ∧ b1 = 0xCB ∧ b3 = opByte 1 b z := by
  simp only [isSecondEncoding, Bool.or_eq_true, Bool.and_eq_true, beq_iff_eq, List.contains_iff_mem] at h
  obtain h | ⟨⟨⟨h0, h1⟩, hx⟩, -⟩ := h
  · exact .inl h
  · obtain ⟨b, z, hop⟩ := exists_eq_opByte hx
    obtain h0 | h0 := h0
    · exact .inr ⟨.ix, b, z, h0, h1, hop⟩
    · exact .inr ⟨.iy, b, z, h0, h1, hop⟩

/-- A second encoding is as long as the documented one. -/
theorem measuresEncoding_decodeBytes (b0 b1 b2 b3 : Byte) : MeasuresEncoding (decodeBytes b0 b1 b2 b3) := by
  cases hs : isSecondEncoding b0 b1 b3
  · exact (readsBack_decodeBytes hs b2).measuresEncoding
  · obtain ⟨rfl, hop⟩ | ⟨x, b, z, rfl, rfl, rfl⟩ := isSecondEncoding_cases hs
    · fin_cases hop <;> exact ⟨rfl, rfl, rfl⟩
    · rw [decodeBytes_bit_xyd]
      cases x <;> exact ⟨rfl, rfl, rfl⟩

theorem encode_length_bounds (i : Instr) : 1 ≤ (encode i).length ∧ (encode i).length ≤ 4 := by
  cases i <;> exact ⟨Nat.le_of_ble_eq_true rfl, Nat.le_of_ble_eq_true rfl⟩

/-! ## Bytes that begin with an encoding -/

theorem decodeBytes_ldRR (r r' : Reg8) (b1 b2 b3 : Byte) :
    decodeBytes (opByte 1 r.field r'.field) b1 b2 b3 = ⟨.ldRR r r', 1, 1⟩ := by
  simp [decodeBytes, decodeMain1]

theorem decodeBytes_rstP {p : Byte} (hp : isRstTarget p = true) (b1 b2 b3 : Byte) :
    decodeBytes (0xC7 ||| p) b1 b2 b3 = ⟨.rstP p, 1, 1⟩ := by
  have htarget : p ∈ [0x00, 0x08, 0x10, 0x18, 0x20, 0x28, 0x30, 0x38] := by
    revert p
    decide
  fin_cases htarget <;> rfl

/-- Four bytes that begin with the encoding of a well-formed instruction decode to it; of a lone prefix the byte after it must have
no indexed form (30_encoding.md R87). -/
theorem decodeBytes_of_encode_prefix {i : Instr} {b0 b1 b2 b3 : Byte} (hwf : i.wellFormed = true) (hfollow : MayFollow i [b1])
    (h : encode i <+: [b0, b1, b2, b3]) : decodeBytes b0 b1 b2 b3 = ⟨i, (encode i).length, m1Fetches (encode i)⟩ := by
  obtain ⟨t, ht⟩ := h
  cases i
  all_goals cases ht
  case prefixCb | prefixEd | prefixDd | prefixFd | prefixDdCb | prefixFdCb => cases hwf
  case lonePrefixDd => exact congrArg afterPrefix (decodeIndexed_lonePrefix .ix hfollow.1 hfollow.2 b2 b3)
  case lonePrefixFd => exact congrArg afterPrefix (decodeIndexed_lonePrefix .iy hfollow.1 hfollow.2 b2 b3)
  case edNop => exact congrArg afterPrefix (decodeExtended_edNop hwf b2 b3)
  case rstP => exact decodeBytes_rstP hwf b1 b2 b3
  -- The operand values that wellFormed leaves.
  case jrCcE cc => cases cc <;> cases hwf <;> rfl
  case ldRIxh r | ldRIxl r | ldRIyh r | ldRIyl r => cases r <;> cases hwf <;> rfl
  case ldRR => exact decodeBytes_ldRR ..
  case bitBR => exact congrArg afterPrefix (decodeBitOps_bit ..)
  case resBR => exact congrArg afterPrefix (decodeBitOps_res ..)
  case setBR => exact congrArg afterPrefix (decodeBitOps_set ..)
  case bitBMemHl => exact congrArg afterPrefix (decodeBitOps_bitMem _)
  case resBMemHl => exact congrArg afterPrefix (decodeBitOps_resMem _)
  case setBMemHl => exact congrArg afterPrefix (decodeBitOps_setMem _)
  case bitBMemIxd => exact decodeBytes_bit_xyd .ix ..
  case bitBMemIyd => exact decodeBytes_bit_xyd .iy ..
  case resBMemIxd => exact congrArg (afterPrefix <| afterPrefix ·) (decodeIndexedBitOps_res .ix ..)
  case resBMemIyd => exact congrArg (afterPrefix <| afterPrefix ·) (decodeIndexedBitOps_res .iy ..)
  case setBMemIxd => exact congrArg (afterPrefix <| afterPrefix ·) (decodeIndexedBitOps_set .ix ..)
  case setBMemIyd => exact congrArg (afterPrefix <| afterPrefix ·) (decodeIndexedBitOps_set .iy ..)
  case resBMemIxdR => exact congrArg (afterPrefix <| afterPrefix ·) (decodeIndexedBitOps_resCopy .ix ..)
  case resBMemIydR => exact congrArg (afterPrefix <| afterPrefix ·) (decodeIndexedBitOps_resCopy .iy ..)
  case setBMemIxdR => exact congrArg (afterPrefix <| afterPrefix ·) (decodeIndexedBitOps_setCopy .ix ..)
  case setBMemIydR => exact congrArg (afterPrefix <| afterPrefix ·) (decodeIndexedBitOps_setCopy .iy ..)
  -- The rows with a word, which is put together again from its bytes.
  case ldMemNnHl nn | ldHlMemNn nn | ldMemNnA nn | ldAMemNn nn | jpNn nn | callNn nn | ldIxNn nn | ldMemNnIx nn | ldIxMemNn nn |
      ldIyNn nn | ldMemNnIy nn | ldIyMemNn nn =>
    conv_rhs => rw [← wordOf_hiByte_loByte nn]
    rfl
  case ldDdNn q nn | ldMemNnDd nn q | ldDdMemNn q nn | jpCcNn q nn | callCcNn q nn =>
    conv_rhs => rw [← wordOf_hiByte_loByte nn]
    cases q <;> rfl
  -- The rows with one operand field: each of its values gives a byte that the decoder evaluates.
  case incSs p | decSs p | addHlSs p | sbcHlSs p | adcHlSs p | popQq p | pushQq p | addIxPp p | addIyPp p => cases p <;> rfl
  case retCc cc => cases cc <;> rfl
  case ldIxhR r | ldIxlR r | ldIyhR r | ldIylR r => cases r <;> rfl
  case incR r | decR r | ldRN r | ldRMemHl r | ldMemHlR r | addAR r | adcAR r | subR r | sbcAR r | andR r | xorR r | orR r | cpR r |
      inRPortC r | outPortCR r | ldRMemIxd r | ldMemIxdR r | ldRMemIyd r | ldMemIydR r => cases r <;> rfl
  case rlcR r | rrcR r | rlR r | rrR r | slaR r | sraR r | slsR r | srlR r | rlcMemIxdR r | rrcMemIxdR r | rlMemIxdR r | rrMemIxdR r |
      slaMemIxdR r | sraMemIxdR r | slsMemIxdR r | srlMemIxdR r | rlcMemIydR r | rrcMemIydR r | rlMemIydR r | rrMemIydR r |
      slaMemIydR r | sraMemIydR r | slsMemIydR r | srlMemIydR r => cases r <;> rfl
  all_goals rfl

/-! ## The list decoder (log 19) -/

theorem decode_cons (b0 : Byte) (rest : List Byte)
    (h : (decodeBytes b0 (rest.getD 0 0) (rest.getD 1 0) (rest.getD 2 0)).examined ≤ rest.length + 1) :
    decode (b0 :: rest) = .ok (decodeBytes b0 (rest.getD 0 0) (rest.getD 1 0) (rest.getD 2 0)) := if_pos h

theorem MeasuresEncoding.examined_le {d : Decoded} (h : MeasuresEncoding d) : d.examined ≤ 4 := by
  obtain ⟨-, hlen, -⟩ := h
  have hbounds := encode_length_bounds d.instr
  unfold Decoded.examined
  split
  · obtain hd | hd := ‹d.instr = .lonePrefixDd ∨ d.instr = .lonePrefixFd› <;> rw [hlen, hd] <;> decide
  · omega

/-- A lone prefix is recognised by the byte after it, which MayFollow asks for (30_encoding.md R87). -/
theorem MayFollow.examined_le {i : Instr} {rest : List Byte} (h : MayFollow i rest) (m1 : Nat) :
    Decoded.examined ⟨i, (encode i).length, m1⟩ ≤ (encode i ++ rest).length := by
  unfold Decoded.examined
  split
  · cases rest with
    | nil => obtain rfl | rfl := ‹i = .lonePrefixDd ∨ i = .lonePrefixFd› <;> cases h
    | cons b rest =>
      rw [List.length_append, List.length_cons]
      dsimp only
      omega
  · simp

/-- The condition is on the second byte alone. -/
theorem MayFollow.second {i : Instr} {b0 : Byte} {rest tail : List Byte} (h : MayFollow i rest)
    (he : encode i ++ rest = b0 :: tail) : MayFollow i [tail.getD 0 0] := by
  cases i
  case lonePrefixDd | lonePrefixFd =>
    obtain ⟨-, rfl⟩ := List.cons.inj he
    cases rest with
    | nil => cases h
    | cons b rest => exact h
  all_goals trivial

/-- The four bytes that the decoder reads of a list begin with whatever the list begins with. -/
theorem prefix_of_append_eq_cons {bs rest tail : List Byte} {b0 : Byte} (hle : bs.length ≤ 4) (he : bs ++ rest = b0 :: tail) :
    bs <+: [b0, tail.getD 0 0, tail.getD 1 0, tail.getD 2 0] := by
  match bs, hle with
  | [], _ => exact List.nil_prefix
  | [_], _ | [_, _], _ | [_, _, _], _ | [_, _, _, _], _ =>
    cases he
    exact ⟨_, rfl⟩

/-! ## What a decode transition runs (30_encoding.md R71; log 9) -/

theorem State.byteAhead_zero (s : State) : s.byteAhead 0 = s.readByte s.pc := by rw [State.byteAhead, BitVec.add_zero]

/-- A row that is no transition completes (execSelected_settingsFrame), and running it after its fetches is exec of it. -/
theorem State.goOn_completes (s : State) {d : Decoded} (hd : isTransition d.instr = false) :
    ∃ t, s.goOn d Params.default = .next t ∧ exec d.instr (s.afterFetch d.length d.m1) = .next t := by
  obtain ⟨t, ht, -, -⟩ := execSelected_settingsFrame hd (s.afterFetch d.length d.m1) Params.default
  refine ⟨t, ht, ?_⟩
  rw [← execWith_default, execWith_of_not_transition hd]
  exact ht

/-! ## The obligations -/

/-- Settles O7: no context selects a transition row, so that the row it does select runs and completes (State.goOn_completes). -/
theorem transitionRunsSelectedRow : Obligations.TransitionRunsSelectedRow := by
  unfold Obligations.TransitionRunsSelectedRow
  intro s i d h
  simp only [← s.byteAhead_zero] at h
  obtain ⟨rfl, rfl⟩ | ⟨rfl, rfl⟩ | ⟨rfl, rfl⟩ | ⟨rfl, rfl⟩ | ⟨rfl, rfl⟩ | ⟨rfl, rfl⟩ := h
  · exact s.goOn_completes (isTransition_decodeBitOps _)
  · exact s.goOn_completes (isTransition_decodeExtended ..)
  · exact s.goOn_completes (isTransition_decodeIndexed ..)
  · exact s.goOn_completes (isTransition_decodeIndexed ..)
  · exact s.goOn_completes (isTransition_decodeIndexedBitOps ..)
  · exact s.goOn_completes (isTransition_decodeIndexedBitOps ..)

/-- Settles O4: each context's rows read back as the bytes they were decoded from (readsBack_decodeBytes); the second encodings after 0xED
are evaluated one by one, and those of BIT b,(XY+d) differ in a field that the row ignores (decodeBytes_bit_xyd). -/
theorem decodedBytesAreTheEncoding : Obligations.DecodedBytesAreTheEncoding := by
  unfold Obligations.DecodedBytesAreTheEncoding
  refine ⟨fun b0 b1 b2 b3 hs => (readsBack_decodeBytes hs b2).encode_eq, fun b2 b3 => ?_, fun b z d => ?_⟩
  · refine ⟨fun op h => ?_, fun op h => ?_, fun op h => ?_, fun op h => ?_, rfl, rfl⟩ <;> fin_cases h <;> rfl
  · exact ⟨decodeBytes_bit_xyd .ix d b z, decodeBytes_bit_xyd .iy d b z⟩

/-- Settles O3: what the decoder answers measures the encoding of its instruction (measuresEncoding_decodeBytes), so that four bytes are
all it examines. -/
theorem everyByteSequenceDecodes : Obligations.EveryByteSequenceDecodes := by
  unfold Obligations.EveryByteSequenceDecodes
  intro b0 b1 b2 b3 rest
  have hd := measuresEncoding_decodeBytes b0 b1 b2 b3
  have hexamined := hd.examined_le
  obtain ⟨hwf, hlen, hm1⟩ := hd
  obtain ⟨hpos, hle⟩ := encode_length_bounds (decodeBytes b0 b1 b2 b3).instr
  refine ⟨_, decode_cons b0 (b1 :: b2 :: b3 :: rest) (hexamined.trans (by simp)), ?_, hwf, hlen, hlen ▸ hpos, hlen ▸ hle, hm1⟩
  rintro s rfl rfl rfl rfl
  rw [State.decodeAtPc, s.byteAhead_zero]
  rfl

/-- Settles O2: the four bytes that the list decoder reads begin with the encoding (prefix_of_append_eq_cons), and so decode to the
instruction (decodeBytes_of_encode_prefix); the list is long enough for what the decoder examines (MayFollow.examined_le). -/
theorem encodeThenDecode : Obligations.EncodeThenDecode := by
  unfold Obligations.EncodeThenDecode
  intro i rest hwf hfollow
  obtain ⟨hpos, hle⟩ := encode_length_bounds i
  obtain ⟨b0, tail, he⟩ : ∃ b0 tail, encode i ++ rest = b0 :: tail :=
    List.exists_cons_of_length_pos (by rw [List.length_append]; omega)
  have hd := decodeBytes_of_encode_prefix hwf (hfollow.second he) (prefix_of_append_eq_cons hle he)
  rw [he, decode_cons, hd]
  rw [hd, ← List.length_cons, ← he]
  exact hfollow.examined_le _

/-- Settles O1: each word is the encoding of its instruction, the lone prefix with the byte after it, and round-trips (encodeThenDecode). -/
theorem sampleWordsDecode : Obligations.SampleWordsDecode := by
  unfold Obligations.SampleWordsDecode
  exact ⟨encodeThenDecode (.ldRN .a 0xA5) [] rfl trivial, encodeThenDecode (.ldRMemHl .h) [] rfl trivial,
    encodeThenDecode (.ldDdNn .bc 0x1234) [] rfl trivial, encodeThenDecode (.pushQq .af) [] rfl trivial,
    encodeThenDecode (.sbcAR .h) [] rfl trivial, encodeThenDecode (.adcHlSs .sp) [] rfl trivial,
    encodeThenDecode (.bitBMemHl 3) [] rfl trivial, encodeThenDecode (.slsMemIxdR 0xFE .b) [] rfl trivial,
    encodeThenDecode (.jpCcNn .c 0x9000) [] rfl trivial, encodeThenDecode (.rstP 0x28) [] rfl trivial,
    encodeThenDecode .lddr [] rfl trivial, encodeThenDecode (.inRPortC .d) [] rfl trivial,
    encodeThenDecode (.ldMemIydR 0x80 .l) [] rfl trivial, encodeThenDecode (.ldRIyh .a) [] rfl trivial,
    encodeThenDecode .lonePrefixDd [0xEB] rfl ⟨rfl, by decide⟩, encodeThenDecode (.edNop 0xED) [] rfl trivial⟩

end Sys2Proof.Machine
end

section
/-! SUPPORT and PROOFS. The family 40_alu.md: results as numbers and as signed numbers, the flags that mirror them, signed overflow, the
alu-table's operations on every operand form, and the decimal adjust. Settles O21 to O26. -/

namespace Sys2Proof.Machine

/-! ## Results as numbers (40_alu.md R100) -/

theorem coe_toNat_ofInt (w : Nat) (i : Int) : ((BitVec.ofInt w i).toNat : Int) = i % 2 ^ w := by
  rw [BitVec.toNat_ofInt, Int.toNat_of_nonneg (Int.emod_nonneg i (by positivity))]
  push_cast
  rfl

theorem add8_toNat (a b : Byte) (cin : Bool) : (add8 a b cin).1.toNat = (a.toNat + b.toNat + cin.toNat) % 256 :=
  BitVec.toNat_ofNat _ 8
theorem sub8_toNat (a b : Byte) (cin : Bool) : ((sub8 a b cin).1.toNat : Int) = ((a.toNat : Int) - b.toNat - cin.toNat) % 256 :=
  coe_toNat_ofInt 8 _
theorem adc16_toNat (a b : Word) (cin : Bool) : (adc16 a b cin).1.toNat = (a.toNat + b.toNat + cin.toNat) % 65536 :=
  BitVec.toNat_ofNat _ 16
theorem sbc16_toNat (a b : Word) (cin : Bool) :
    ((sbc16 a b cin).1.toNat : Int) = ((a.toNat : Int) - b.toNat - cin.toNat) % 65536 :=
  coe_toNat_ofInt 16 _
theorem inc8_toNat (v : Byte) (g : Flags) : (inc8 v g).1.toNat = (v.toNat + 1) % 256 := BitVec.toNat_ofNat _ 8
theorem dec8_toNat (v : Byte) (g : Flags) : ((dec8 v g).1.toNat : Int) = ((v.toNat : Int) - 1) % 256 := coe_toNat_ofInt 8 _

/-! ## The flags that mirror a result (R101, R116) -/

theorem Mirrors.of_bits {g : Flags} {r : Byte} (hs : g.s = r.getLsbD 7) (hz : g.z = (r == 0)) (h5 : g.f5 = r.getLsbD 5)
    (h3 : g.f3 = r.getLsbD 3) : Mirrors g r :=
  ⟨hs.trans r.msb_eq_decide, hz, h5, h3⟩

theorem Mirrors16.of_bits {g : Flags} {r : Word} (hs : g.s = r.getLsbD 15) (hz : g.z = (r == 0)) (h5 : g.f5 = r.getLsbD 13)
    (h3 : g.f3 = r.getLsbD 11) : Mirrors16 g r :=
  ⟨hs.trans r.msb_eq_decide, hz, h5, h3⟩

theorem add8_mirrors (a b : Byte) (cin : Bool) : Mirrors (add8 a b cin).2 (add8 a b cin).1 := .of_bits rfl rfl rfl rfl
theorem sub8_mirrors (a b : Byte) (cin : Bool) : Mirrors (sub8 a b cin).2 (sub8 a b cin).1 := .of_bits rfl rfl rfl rfl
theorem inc8_mirrors (v : Byte) (g : Flags) : Mirrors (inc8 v g).2 (inc8 v g).1 := .of_bits rfl rfl rfl rfl
theorem dec8_mirrors (v : Byte) (g : Flags) : Mirrors (dec8 v g).2 (dec8 v g).1 := .of_bits rfl rfl rfl rfl
theorem logicFlags_mirrors (h : Bool) (r : Byte) : Mirrors (logicFlags h r) r := .of_bits rfl rfl rfl rfl
theorem adc16_mirrors (a b : Word) (cin : Bool) : Mirrors16 (adc16 a b cin).2 (adc16 a b cin).1 := .of_bits rfl rfl rfl rfl
theorem sbc16_mirrors (a b : Word) (cin : Bool) : Mirrors16 (sbc16 a b cin).2 (sbc16 a b cin).1 := .of_bits rfl rfl rfl rfl

/-- The set bits of a byte, counted one by one and over the list of their positions (R103). -/
theorem popCount_eq_countP (v : Byte) : popCount v = (List.range 8).countP fun k => v.getLsbD k := by
  have hrange : List.range 8 = [0, 1, 2, 3, 4, 5, 6, 7] := rfl
  simp only [hrange, List.countP_cons, List.countP_nil, popCount, Bool.toNat, cond_eq_ite]
  omega

theorem parity_eq_evenParity (v : Byte) : parity v = evenParity v := by
  rw [parity, popCount_eq_countP]
  rfl

/-! ## PV, by the signs of the operands and of the result (R104, R105, R115) -/

theorem beq_and_bne (p q r : Bool) : ((p == q) && (r != p)) = decide (p = q ∧ r ≠ p) := by revert p q r; decide
theorem bne_and_beq (p q r : Bool) : ((p != q) && (r == q)) = decide (p ≠ q ∧ r = q) := by revert p q r; decide

theorem add8_pv (a b : Byte) (cin : Bool) :
    (add8 a b cin).2.pv = decide (a.getLsbD 7 = b.getLsbD 7 ∧ (add8 a b cin).1.getLsbD 7 ≠ a.getLsbD 7) := beq_and_bne ..
theorem sub8_pv (a b : Byte) (cin : Bool) :
    (sub8 a b cin).2.pv = decide (a.getLsbD 7 ≠ b.getLsbD 7 ∧ (sub8 a b cin).1.getLsbD 7 = b.getLsbD 7) := bne_and_beq ..
theorem adc16_pv (a b : Word) (cin : Bool) :
    (adc16 a b cin).2.pv = decide (a.getLsbD 15 = b.getLsbD 15 ∧ (adc16 a b cin).1.getLsbD 15 ≠ a.getLsbD 15) := beq_and_bne ..
theorem sbc16_pv (a b : Word) (cin : Bool) :
    (sbc16 a b cin).2.pv = decide (a.getLsbD 15 ≠ b.getLsbD 15 ∧ (sbc16 a b cin).1.getLsbD 15 = b.getLsbD 15) := bne_and_beq ..

/-! ## The signs tell whether the signed result is out of range (R124) -/

theorem toInt_range {w : Nat} (x : BitVec (w + 1)) : -2 ^ w ≤ x.toInt ∧ x.toInt < 2 ^ w := ⟨x.le_toInt, x.toInt_lt⟩

/-- A number less than one turn away from 0 is truncated by at most one turn. -/
theorem toInt_ofInt_cases {w : Nat} {x : Int} (hlo : -2 ^ (w + 1) ≤ x) (hhi : x < 2 ^ (w + 1)) :
    (BitVec.ofInt (w + 1) x).toInt = x ∨ (BitVec.ofInt (w + 1) x).toInt = x - 2 ^ (w + 1) ∨
      (BitVec.ofInt (w + 1) x).toInt = x + 2 ^ (w + 1) := by
  have hmod : x % 2 ^ (w + 1) = x ∨ x % 2 ^ (w + 1) = x + 2 ^ (w + 1) := by
    obtain hneg | hpos := Int.lt_or_le x 0
    · exact .inr (by rw [← Int.add_emod_right, Int.emod_eq_of_lt (by omega) (by omega)])
    · exact .inl (Int.emod_eq_of_lt hpos hhi)
  rw [BitVec.toInt_ofInt, Int.bmod_def]
  push_cast
  omega

/-- Operands of one sign with a sum of the other: the signed sum is out of range. -/
theorem sum_signs_iff {w : Nat} (a b : BitVec (w + 1)) (c : Bool) :
    (a.msb = b.msb ∧ (BitVec.ofInt (w + 1) (a.toInt + b.toInt + c.toNat)).msb ≠ a.msb) ↔
      ¬(-2 ^ w ≤ a.toInt + b.toInt + c.toNat ∧ a.toInt + b.toInt + c.toNat < 2 ^ w) := by
  have ha := toInt_range a
  have hb := toInt_range b
  have hc := c.toNat_le
  have hr := toInt_range (BitVec.ofInt (w + 1) (a.toInt + b.toInt + c.toNat))
  have hwrap := toInt_ofInt_cases (w := w) (x := a.toInt + b.toInt + c.toNat) (by omega) (by omega)
  simp only [BitVec.msb_eq_toInt, ne_eq, decide_eq_decide]
  omega

/-- Operands of different signs with a difference of the second one's sign: the signed difference is out of range. -/
theorem difference_signs_iff {w : Nat} (a b : BitVec (w + 1)) (c : Bool) :
    (a.msb ≠ b.msb ∧ (BitVec.ofInt (w + 1) (a.toInt - b.toInt - c.toNat)).msb = b.msb) ↔
      ¬(-2 ^ w ≤ a.toInt - b.toInt - c.toNat ∧ a.toInt - b.toInt - c.toNat < 2 ^ w) := by
  have ha := toInt_range a
  have hb := toInt_range b
  have hc := c.toNat_le
  have hr := toInt_range (BitVec.ofInt (w + 1) (a.toInt - b.toInt - c.toNat))
  have hwrap := toInt_ofInt_cases (w := w) (x := a.toInt - b.toInt - c.toNat) (by omega) (by omega)
  simp only [BitVec.msb_eq_toInt, ne_eq, decide_eq_decide]
  omega

/-! Each result is also the truncation of the signed sum or difference. -/

theorem add8_fst (a b : Byte) (cin : Bool) : (add8 a b cin).1 = BitVec.ofInt 8 (a.toInt + b.toInt + cin.toNat) := by
  simp [add8, BitVec.ofNat_add, BitVec.ofInt_add]
theorem sub8_fst (a b : Byte) (cin : Bool) : (sub8 a b cin).1 = BitVec.ofInt 8 (a.toInt - b.toInt - cin.toNat) := by
  simp [sub8, sub_eq_add_neg, BitVec.ofInt_add, BitVec.ofInt_neg]
theorem adc16_fst (a b : Word) (cin : Bool) : (adc16 a b cin).1 = BitVec.ofInt 16 (a.toInt + b.toInt + cin.toNat) := by
  simp [adc16, BitVec.ofNat_add, BitVec.ofInt_add]
theorem sbc16_fst (a b : Word) (cin : Bool) : (sbc16 a b cin).1 = BitVec.ofInt 16 (a.toInt - b.toInt - cin.toNat) := by
  simp [sbc16, sub_eq_add_neg, BitVec.ofInt_add, BitVec.ofInt_neg]

theorem overflows8_eq {w : Int} {p : Prop} [Decidable p] (h : p ↔ ¬(-2 ^ 7 ≤ w ∧ w < 2 ^ 7)) : decide p = overflows8 w :=
  decide_eq_decide.2 (h.trans (by omega))
theorem overflows16_eq {w : Int} {p : Prop} [Decidable p] (h : p ↔ ¬(-2 ^ 15 ≤ w ∧ w < 2 ^ 15)) : decide p = overflows16 w :=
  decide_eq_decide.2 (h.trans (by omega))

theorem add8_pv_eq_overflows8 (a b : Byte) (cin : Bool) : (add8 a b cin).2.pv = overflows8 (a.toInt + b.toInt + cin.toNat) := by
  rw [add8_pv, add8_fst]
  exact overflows8_eq (sum_signs_iff a b cin)
theorem sub8_pv_eq_overflows8 (a b : Byte) (cin : Bool) : (sub8 a b cin).2.pv = overflows8 (a.toInt - b.toInt - cin.toNat) := by
  rw [sub8_pv, sub8_fst]
  exact overflows8_eq (difference_signs_iff a b cin)
theorem adc16_pv_eq_overflows16 (a b : Word) (cin : Bool) :
    (adc16 a b cin).2.pv = overflows16 (a.toInt + b.toInt + cin.toNat) := by
  rw [adc16_pv, adc16_fst]
  exact overflows16_eq (sum_signs_iff a b cin)
theorem sbc16_pv_eq_overflows16 (a b : Word) (cin : Bool) :
    (sbc16 a b cin).2.pv = overflows16 (a.toInt - b.toInt - cin.toNat) := by
  rw [sbc16_pv, sbc16_fst]
  exact overflows16_eq (difference_signs_iff a b cin)

/-! ## The other laws of R124 -/

theorem sub8_add8_cancel (a b : Byte) : (sub8 (add8 a b false).1 b false).1 = a := by
  apply BitVec.eq_of_toNat_eq
  have hadd := add8_toNat a b false
  have hsub := sub8_toNat (add8 a b false).1 b false
  simp only [Bool.toNat_false] at hadd hsub
  omega

/-- A value less itself: the difference is 0 at every digit, so that neither a borrow nor an overflow arises. -/
theorem sub8_self (a : Byte) :
    sub8 a a false = (0, { s := false, z := true, f5 := false, h := false, f3 := false, pv := false, n := true, c := false }) := by
  simp [sub8]

/-! ## The alu-table's operations on every operand form (43_arith8.md R200) -/

theorem exec_alu (src : ByteForm) (k : AluOp) (s : State) :
    exec (src.alu k) s = .next ((s.alu k (src.value s)).charge src.aluCost) := by
  cases src with
  | reg r => cases k <;> rfl
  | memHl => cases k <;> rfl
  | imm n => cases k <;> rfl
  | xyh x => cases x <;> cases k <;> rfl
  | xyl x => cases x <;> cases k <;> rfl
  | memXyd x d => cases x <;> cases k <;> rfl

/-! ## The decimal adjust (R118) -/

/-- Whether the low digit is corrected. -/
def daaLow (a : Byte) (g : Flags) : Bool := g.h || decide (a.toNat % 16 > 9)

/-- Whether the high digit is corrected. -/
def daaHigh (a : Byte) (g : Flags) : Bool := g.c || decide (a.toNat > 0x99)

theorem daa_c (a : Byte) (g : Flags) : (daa a g).2.c = daaHigh a g := rfl

theorem daaCorrection_toNat (low high : Bool) :
    ((if low then 0x06 else 0) ||| (if high then 0x60 else 0) : Byte).toNat = 6 * low.toNat + 96 * high.toNat := by
  cases low <;> cases high <;> rfl

/-- After an add the correction is added. -/
theorem daa_toNat_of_add {g : Flags} (hn : g.n = false) (a : Byte) :
    (daa a g).1.toNat = (a.toNat + (6 * (daaLow a g).toNat + 96 * (daaHigh a g).toNat)) % 256 := by
  rw [← daaCorrection_toNat]
  simp only [daa, hn, Bool.false_eq_true, if_false]
  exact add8_toNat a _ false

/-- The carry of a sum below two units is the quotient by the unit. -/
theorem toNat_decide_le {m n : Nat} (h : n < 2 * m) : (decide (m ≤ n)).toNat = n / m := by
  obtain hlt | hle := Nat.lt_or_ge n m
  · rw [Nat.div_eq_of_lt hlt, decide_eq_false (Nat.not_le.2 hlt), Bool.toNat_false]
  · rw [Nat.div_eq_of_lt_le (by omega : 1 * m ≤ n) h, decide_eq_true hle, Bool.toNat_true]

/-! ## Packed decimal digits -/

/-- A number as two decimal digits, one in each half of the byte. -/
def packedBcd (n : Nat) : Byte := BitVec.ofNat 8 (16 * (n / 10 % 10) + n % 10)

theorem packedBcd_toNat {p q : Nat} (hp : p < 10) (hq : q < 10) : (packedBcd (10 * p + q)).toNat = 16 * p + q := by
  rw [packedBcd, BitVec.toNat_ofNat]
  omega

theorem exists_digits {n : Nat} (h : n < 100) : ∃ p q, p < 10 ∧ q < 10 ∧ n = 10 * p + q :=
  ⟨n / 10, n % 10, by omega, by omega, by omega⟩

/-- The add before the adjust (R104). -/
def bcdAdd (x y : Nat) (cin : Bool) : Byte × Flags := add8 (packedBcd x) (packedBcd y) cin

section
variable {p q p' q' : Nat} (hp : p < 10) (hq : q < 10) (hp' : p' < 10) (hq' : q' < 10) (cin : Bool)
include hp hq hp' hq'

theorem bcdAdd_toNat :
    (bcdAdd (10 * p + q) (10 * p' + q') cin).1.toNat = (16 * (p + p') + (q + q' + cin.toNat)) % 256 := by
  rw [bcdAdd, add8_toNat, packedBcd_toNat hp hq, packedBcd_toNat hp' hq']
  omega

theorem bcdAdd_h : (bcdAdd (10 * p + q) (10 * p' + q') cin).2.h = decide (15 < q + q' + cin.toNat) := by
  simp only [bcdAdd, add8, packedBcd_toNat hp hq, packedBcd_toNat hp' hq', decide_eq_decide]
  omega

theorem bcdAdd_c :
    (bcdAdd (10 * p + q) (10 * p' + q') cin).2.c = decide (255 < 16 * (p + p') + (q + q' + cin.toNat)) := by
  simp only [bcdAdd, add8, packedBcd_toNat hp hq, packedBcd_toNat hp' hq', decide_eq_decide]
  omega

/-- The low digit is corrected when the sum of the low digits is no digit: it then is above 9 or gave the half-carry. -/
theorem daaLow_bcdAdd :
    daaLow (bcdAdd (10 * p + q) (10 * p' + q') cin).1 (bcdAdd (10 * p + q) (10 * p' + q') cin).2 =
      decide (10 ≤ q + q' + cin.toNat) := by
  have hc := cin.toNat_le
  rw [daaLow, bcdAdd_toNat hp hq hp' hq', bcdAdd_h hp hq hp' hq', ← Bool.decide_or, decide_eq_decide]
  omega

/-- The high digit is corrected when the decimal sum has a carry. -/
theorem daaHigh_bcdAdd :
    daaHigh (bcdAdd (10 * p + q) (10 * p' + q') cin).1 (bcdAdd (10 * p + q) (10 * p' + q') cin).2 =
      decide (100 ≤ 10 * p + q + (10 * p' + q') + cin.toNat) := by
  have hc := cin.toNat_le
  rw [daaHigh, bcdAdd_toNat hp hq hp' hq', bcdAdd_c hp hq hp' hq', ← Bool.decide_or, decide_eq_decide]
  omega

/-- The correction turns the carries out of sixteens into carries out of tens. -/
theorem daa_bcdAdd_fst :
    (daa (bcdAdd (10 * p + q) (10 * p' + q') cin).1 (bcdAdd (10 * p + q) (10 * p' + q') cin).2).1 =
      packedBcd ((10 * p + q + (10 * p' + q') + cin.toNat) % 100) := by
  have hc := cin.toNat_le
  obtain ⟨r, t, hr, ht, hsum⟩ := exists_digits (Nat.mod_lt (10 * p + q + (10 * p' + q') + cin.toNat) (by decide : 0 < 100))
  have hunits : q + q' + cin.toNat = 10 * ((q + q' + cin.toNat) / 10) + t := by omega
  apply BitVec.eq_of_toNat_eq
  rw [daa_toNat_of_add rfl, daaLow_bcdAdd hp hq hp' hq', daaHigh_bcdAdd hp hq hp' hq', toNat_decide_le (by omega),
    toNat_decide_le (by omega), bcdAdd_toNat hp hq hp' hq', hsum, packedBcd_toNat hr ht]
  omega

end

/-! ## The obligations -/

/-- Settles O21: the results as numbers (add8_toNat, sub8_toNat), the flags that mirror them, PV by the signs, and the users through the
one rule for every operand form (exec_alu). -/
theorem add8AndSub8 : Obligations.Add8AndSub8 := by
  unfold Obligations.Add8AndSub8
  refine ⟨fun a b cin => ?_, ?_⟩
  · exact ⟨add8_toNat a b cin, add8_mirrors a b cin, rfl, add8_pv a b cin, rfl, rfl,
      sub8_toNat a b cin, sub8_mirrors a b cin, rfl, sub8_pv a b cin, rfl, rfl⟩
  · rintro s src v cf rfl rfl
    exact ⟨⟨_, exec_alu src .add s⟩, ⟨_, exec_alu src .adc s⟩, ⟨_, exec_alu src .sub s⟩, ⟨_, exec_alu src .sbc s⟩, ⟨_, rfl⟩⟩

/-- Settles O23: the two counts of the set bits agree (parity_eq_evenParity), and all three operations write the flags of their result
(logicFlags_mirrors). -/
theorem logicPrimitives : Obligations.LogicPrimitives := by
  unfold Obligations.LogicPrimitives
  refine fun a b => ⟨parity_eq_evenParity, fun k _ => ?_, fun p hp => ?_, rfl, rfl, rfl⟩
  · exact ⟨BitVec.getLsbD_and, BitVec.getLsbD_xor, BitVec.getLsbD_or⟩
  · obtain ⟨h, hflags⟩ : ∃ h, p.2 = logicFlags h p.1 := by
      simp only [List.mem_cons, List.not_mem_nil, or_false] at hp
      obtain rfl | rfl | rfl := hp <;> exact ⟨_, rfl⟩
    rw [hflags]
    exact ⟨logicFlags_mirrors h p.1, parity_eq_evenParity p.1, rfl, rfl⟩

/-- Settles O24: the results as numbers (adc16_toNat, sbc16_toNat), the flags that mirror them, and PV by the signs; the borrows are
the same on numbers that are not truncated. -/
theorem adc16AndSbc16 : Obligations.Adc16AndSbc16 := by
  unfold Obligations.Adc16AndSbc16
  refine ⟨fun a b cin => ⟨?_, ?_⟩, ?_⟩
  · exact ⟨adc16_toNat a b cin, adc16_mirrors a b cin, rfl, adc16_pv a b cin, rfl, rfl⟩
  · exact ⟨sbc16_toNat a b cin, sbc16_mirrors a b cin, decide_eq_decide.2 (by omega), sbc16_pv a b cin, rfl,
      decide_eq_decide.2 (by omega)⟩
  · rintro s ss hl v cf rfl rfl rfl
    exact ⟨⟨_, rfl⟩, ⟨_, rfl⟩⟩

/-- Settles O25: PV by the signs is the signed result out of range (sum_signs_iff, difference_signs_iff), a subtract undoes an add
(sub8_add8_cancel) and a value less itself is 0 (sub8_self). -/
theorem arithmeticLaws : Obligations.ArithmeticLaws := by
  unfold Obligations.ArithmeticLaws
  refine ⟨sub8_add8_cancel, fun a b cin => ?_, fun a b cin => ?_, fun a => ?_, fun g => ?_, fun g => ?_⟩
  · exact ⟨add8_pv_eq_overflows8 a b cin, sub8_pv_eq_overflows8 a b cin⟩
  · exact ⟨adc16_pv_eq_overflows16 a b cin, sbc16_pv_eq_overflows16 a b cin⟩
  · rw [sub8_self]
    exact ⟨rfl, rfl, rfl, rfl, rfl, rfl⟩
  · exact ⟨rfl, rfl, rfl, rfl, rfl⟩
  · exact ⟨rfl, rfl, rfl, rfl, rfl⟩

/-- Settles O26, by the digits of the operands: the low digit is corrected when the sum of the low digits is no digit (daaLow_bcdAdd), and
the high one when the decimal sum has a carry (daaHigh_bcdAdd). -/
theorem daaGivesDecimalSum : Obligations.DaaGivesDecimalSum := by
  unfold Obligations.DaaGivesDecimalSum
  intro x y cin
  obtain ⟨p, q, hp, hq, hx⟩ := exists_digits x.isLt
  obtain ⟨p', q', hp', hq', hy⟩ := exists_digits y.isLt
  rw [hx, hy]
  exact ⟨daa_bcdAdd_fst hp hq hp' hq' cin, (daa_c _ _).trans (daaHigh_bcdAdd hp hq hp' hq' cin)⟩

/-- Settles O22: the results as numbers (inc8_toNat, dec8_toNat) and the flags that mirror them; C is the one given. -/
theorem inc8AndDec8 : Obligations.Inc8AndDec8 := by
  unfold Obligations.Inc8AndDec8
  refine fun v g0 => ⟨?_, ?_⟩
  · exact ⟨inc8_toNat v g0, inc8_mirrors v g0, rfl, rfl, rfl, rfl⟩
  · exact ⟨dec8_toNat v g0, dec8_mirrors v g0, rfl, rfl, rfl, rfl⟩

end Sys2Proof.Machine
end

section
/-! SUPPORT and PROOFS. The family 41_load8.md: the loads of a register or of an index half, the stores, and the moves between A and I or R.
Settles O27 to O29. -/

namespace Sys2Proof.Machine

/-! ## The flags of LD A,I and LD A,R (41_load8.md R154, R155) -/

theorem ldAirFlags_mirrors (v : Byte) (iff2 : Bool) (g : Flags) : Mirrors (ldAirFlags v iff2 g) v := .of_bits rfl rfl rfl rfl

/-! ## The obligations -/

/-- Settles O28: each form ends in one store of a byte or of a word, at the address it names, and what that store changes is
StoresOnlyByte.of_writeByte and StoresOnlyWord.of_writeWord. -/
theorem stores : Obligations.Stores := by
  unfold Obligations.Stores
  intro s r dd n d nn h
  refine ⟨?memHlR, ?memHlN, ?memBcA, ?memDeA, ?memNnA, ?memIxdR, ?memIydR, ?memIxdN, ?memIydN, ?memNnHl, ?memNnDd, ?memNnIx, ?memNnIy⟩
  case memHlR => exact .of_writeByte h s.hl (s.reg8 r) 7
  case memHlN => exact .of_writeByte h s.hl n 10
  case memBcA => exact .of_writeByte h s.bc s.a 7
  case memDeA => exact .of_writeByte h s.de s.a 7
  case memNnA => exact .of_writeByte h nn s.a 13
  case memIxdR => exact .of_writeByte h (s.ea .ix d) (s.reg8 r) 19
  case memIydR => exact .of_writeByte h (s.ea .iy d) (s.reg8 r) 19
  case memIxdN => exact .of_writeByte h (s.ea .ix d) n 19
  case memIydN => exact .of_writeByte h (s.ea .iy d) n 19
  case memNnHl => exact .of_writeWord h nn s.hl 16
  case memNnDd => exact .of_writeWord h nn (s.pair dd) 20
  case memNnIx => exact .of_writeWord h nn s.ix 20
  case memNnIy => exact .of_writeWord h nn s.iy 20

/-- Settles O27: each form ends in a write of the register, or of the whole index register with its other half kept, and what that write
changes is LoadsReg8.of_setReg8 and LoadsXy.of_setXy. -/
theorem loadRegister8 : Obligations.LoadRegister8 := by
  unfold Obligations.LoadRegister8
  intro s r r' x n d nn
  refine ⟨?reg, ?imm, ?memHl, ?memIxd, ?memIyd, ?fromIxh, ?fromIxl, ?fromIyh, ?fromIyl, ?memBc, ?memDe, ?memNn,
    ?ixhReg, ?ixlReg, ?iyhReg, ?iylReg, ?ixhImm, ?ixlImm, ?iyhImm, ?iylImm⟩
  case reg => exact .of_setReg8 s r (s.reg8 r') 4
  case imm => exact .of_setReg8 s r n 7
  case memHl => exact .of_setReg8 s r (s.readByte s.hl) 7
  case memIxd => exact .of_setReg8 s r (s.readByte (s.ea .ix d)) 19
  case memIyd => exact .of_setReg8 s r (s.readByte (s.ea .iy d)) 19
  case fromIxh => exact .of_setReg8 s r (s.xyh .ix) 8
  case fromIxl => exact .of_setReg8 s r (s.xyl .ix) 8
  case fromIyh => exact .of_setReg8 s r (s.xyh .iy) 8
  case fromIyl => exact .of_setReg8 s r (s.xyl .iy) 8
  case memBc => exact .of_setReg8 s .a (s.readByte s.bc) 7
  case memDe => exact .of_setReg8 s .a (s.readByte s.de) 7
  case memNn => exact .of_setReg8 s .a (s.readByte nn) 13
  case ixhReg => exact .of_setXy s .ix (wordOf (s.regX .ix x) (s.xyl .ix)) 8
  case ixlReg => exact .of_setXy s .ix (wordOf (s.xyh .ix) (s.regX .ix x)) 8
  case iyhReg => exact .of_setXy s .iy (wordOf (s.regX .iy x) (s.xyl .iy)) 8
  case iylReg => exact .of_setXy s .iy (wordOf (s.xyh .iy) (s.regX .iy x)) 8
  case ixhImm => exact .of_setXy s .ix (wordOf n (s.xyl .ix)) 11
  case ixlImm => exact .of_setXy s .ix (wordOf (s.xyh .ix) n) 11
  case iyhImm => exact .of_setXy s .iy (wordOf n (s.xyl .iy)) 11
  case iylImm => exact .of_setXy s .iy (wordOf (s.xyh .iy) n) 11

/-- Settles O29: the flags are ldAirFlags of the value read, which mirror it (ldAirFlags_mirrors); the moves into I and R write the
register alone. -/
theorem specialRegisterMoves : Obligations.SpecialRegisterMoves := by
  unfold Obligations.SpecialRegisterMoves
  refine fun s => ⟨⟨ldAirFlags s.i s.iff2 s.flags, rfl, ?_⟩, ⟨ldAirFlags s.r s.iff2 s.flags, rfl, ?_⟩, rfl, rfl⟩
  · exact ⟨ldAirFlags_mirrors s.i s.iff2 s.flags, rfl, rfl, rfl, rfl⟩
  · exact ⟨ldAirFlags_mirrors s.r s.iff2 s.flags, rfl, rfl, rfl, rfl⟩

end Sys2Proof.Machine
end

section
/-! SUPPORT and PROOFS. The family 42_load16_exchange.md: the 16-bit loads, the stack and the exchanges. Settles O30 to O32. -/

namespace Sys2Proof.Machine

/-- After a write of a pair of the rp2-table that pair alone reads the value written (R22, R182): no two of the four share a register. -/
theorem State.pairQ_setPairQ (s : State) (q p : PairQ) (v : Word) :
    (s.setPairQ q v).pairQ p = if p = q then v else s.pairQ p := by
  split
  case isTrue heq =>
    subst heq
    cases p <;> exact wordOf_hiByte_loByte v
  case isFalse hne => cases p <;> cases q <;> first | contradiction | rfl

/-- A write of a pair of the rp2-table leaves all but the registers of the four pairs. -/
theorem State.setPairQ_frame (s : State) (q : PairQ) (v : Word) :
    s.setPairQ q v = { s with
      a := (s.setPairQ q v).a, f := (s.setPairQ q v).f, b := (s.setPairQ q v).b, c := (s.setPairQ q v).c, d := (s.setPairQ q v).d,
      e := (s.setPairQ q v).e, h := (s.setPairQ q v).h, l := (s.setPairQ q v).l } := by
  cases q <;> rfl

/-- Two charges are one charge of their sum (60_exceptions.md R351). -/
theorem State.charge_charge (s : State) (m n : Nat) : (s.charge m).charge n = s.charge (m + n) := by
  simp [State.charge, Int.add_assoc]

/-- EX DE,HL moves the four halves crosswise (R184). -/
theorem State.setHl_setDe_exchange (s : State) : (s.setDe s.hl).setHl s.de = { s with d := s.h, e := s.l, h := s.d, l := s.e } := by
  simp [State.setDe, State.setHl, State.hl, State.de]

/-- EX (SP),IX stores a word and writes IX, and every other field stays (R188). -/
theorem State.setXy_ix_writeWord (s : State) (k v w : Word) :
    (s.writeWord k v).setXy .ix w = { s with ix := w, mem := (s.writeWord k v).mem } := rfl

/-- EX (SP),IY stores a word and writes IY, and every other field stays (R188). -/
theorem State.setXy_iy_writeWord (s : State) (k v w : Word) :
    (s.writeWord k v).setXy .iy w = { s with iy := w, mem := (s.writeWord k v).mem } := rfl

/-! ## The obligations -/

/-- Settles O31: a push is PushesAndGoes.of_push16; a POP writes the word at SP to its pair, which is read back by State.pairQ_setPairQ
and leaves the rest by State.setPairQ_frame. -/
theorem pushAndPop : Obligations.PushAndPop := by
  unfold Obligations.PushAndPop
  intro s qq h
  refine ⟨?pushQq, ?pushIx, ?pushIy, ?popQq, ?popIx, ?popIy⟩
  case pushQq => exact .of_push16 h (s.pairQ qq) 11
  case pushIx => exact .of_push16 h s.ix 15
  case pushIy => exact .of_push16 h s.iy 15
  case popQq =>
    exact ⟨(s.drop16.setPairQ qq s.top16).charge 10, rfl, congrArg (State.charge · 10) (s.drop16.setPairQ_frame qq s.top16),
      fun p => s.drop16.pairQ_setPairQ qq p s.top16⟩
  case popIx => rfl
  case popIy => rfl

/-- Settles O32: EX AF,AF′ and EXX move every register back when run again, so that two charges are left (State.charge_charge); the
EX (SP) forms store the register as LD (nn),rr does (State.stores_writeWord) and take the word that was at SP before the store. -/
theorem exchanges : Obligations.Exchanges := by
  unfold Obligations.Exchanges
  intro s hs
  have twice : (s.charge 4).charge 4 = s.charge 8 := s.charge_charge 4 4
  refine ⟨?exDeHl, ?exAfAf, ?exx, ?exMemSpHl, ?exMemSpIx, ?exMemSpIy⟩
  case exDeHl => exact congrArg (Host.Outcome.next <| State.charge · 4) s.setHl_setDe_exchange
  case exAfAf => exact ⟨_, rfl, rfl, rfl, rfl, rfl, rfl, congrArg Host.Outcome.next twice⟩
  case exx =>
    exact ⟨_, rfl, rfl, rfl, rfl, rfl, rfl, rfl, rfl, rfl, rfl, rfl, rfl, rfl, rfl, congrArg Host.Outcome.next twice⟩
  case exMemSpHl =>
    exact ⟨_, rfl, rfl, wordOf_hiByte_loByte s.top16, (State.stores_writeWord hs s.sp s.hl).congr rfl⟩
  case exMemSpIx =>
    exact ⟨_, rfl, congrArg (State.charge · 23) (s.setXy_ix_writeWord s.sp s.ix s.top16), (State.stores_writeWord hs s.sp s.ix).congr rfl⟩
  case exMemSpIy =>
    exact ⟨_, rfl, congrArg (State.charge · 23) (s.setXy_iy_writeWord s.sp s.iy s.top16), (State.stores_writeWord hs s.sp s.iy).congr rfl⟩

/-- Settles O30: each form ends in a write of a pair or of an index register, and what that write changes is LoadsPair.of_setPair and
LoadsXy.of_setXy. -/
theorem loadPair16 : Obligations.LoadPair16 := by
  unfold Obligations.LoadPair16
  intro s dd nn
  refine ⟨?ddNn, ?hlMemNn, ?ddMemNn, ?ixNn, ?iyNn, ?ixMemNn, ?iyMemNn, ?spHl, ?spIx, ?spIy⟩
  case ddNn => exact .of_setPair s dd nn 10
  case hlMemNn => exact .of_setPair s .hl (s.readWord nn) 16
  case ddMemNn => exact .of_setPair s dd (s.readWord nn) 20
  case ixNn => exact .of_setXy s .ix nn 14
  case iyNn => exact .of_setXy s .iy nn 14
  case ixMemNn => exact .of_setXy s .ix (s.readWord nn) 20
  case iyMemNn => exact .of_setXy s .iy (s.readWord nn) 20
  case spHl => exact .of_setPair s .sp s.hl 6
  case spIx => exact .of_setPair s .sp s.ix 10
  case spIy => exact .of_setPair s .sp s.iy 10

end Sys2Proof.Machine
end

section
/-! SUPPORT and PROOFS. The family 43_arith8.md: the accumulator operations on every operand form, INC and DEC of a register, of an
index half and of a byte of memory, and the accumulator adjusts. Settles O33 to O38. -/

namespace Sys2Proof.Machine

/-! ## Results as bytes: the primitives without a carry in, INC and DEC (40_alu.md R104, R105, R107, R108) -/

theorem add8_false_fst (a b : Byte) : (add8 a b false).1 = a + b := by
  simp [add8, BitVec.ofNat_add]

theorem sub8_false_fst (a b : Byte) : (sub8 a b false).1 = a - b := by
  simp [sub8, sub_eq_add_neg, BitVec.ofInt_add, BitVec.ofInt_neg]

theorem inc8_fst (v : Byte) (g : Flags) : (inc8 v g).1 = v + 1 := by
  simp [inc8, BitVec.ofNat_add]

theorem dec8_fst (v : Byte) (g : Flags) : (dec8 v g).1 = v - 1 := by
  simp [dec8, sub_eq_add_neg, BitVec.ofInt_add]

/-! ## The borrows of a subtract on numbers that are not truncated (R105) -/

theorem sub8_h (a b : Byte) (cin : Bool) : (sub8 a b cin).2.h = decide (a.toNat % 16 < b.toNat % 16 + cin.toNat) :=
  decide_eq_decide.2 (by omega)

theorem sub8_c (a b : Byte) (cin : Bool) : (sub8 a b cin).2.c = decide (a.toNat < b.toNat + cin.toNat) :=
  decide_eq_decide.2 (by omega)

/-! ## The accumulator operations (43_arith8.md R201 to R208) -/

/-- An accumulator operation that writes the result `p` writes A and F alone (R200). -/
theorem exec_alu_of_setAcc {s : State} {src : ByteForm} {k : AluOp} {p : Byte × Flags} (h : s.alu k (src.value s) = s.setAcc p) :
    exec (src.alu k) s = .next { s with a := p.1, f := p.2.toByte, budget := s.budget + src.aluCost } := by
  rw [exec_alu, h]
  rfl

/-- ADD and ADC differ in the carry in alone (R201, R202). -/
theorem State.alu_eq_add8 {s : State} {k : AluOp} {cin : Bool}
    (h : k = .add ∧ cin = false ∨ k = .adc ∧ cin = s.f.getLsbD 0) (v : Byte) : s.alu k v = s.setAcc (add8 s.a v cin) := by
  obtain ⟨rfl, rfl⟩ | ⟨rfl, rfl⟩ := h
  · rfl
  · rfl

/-- SUB, SBC and CP differ in the borrow in, and CP puts A back (R203, R204, R208). -/
theorem State.alu_eq_sub8 {s : State} {k : AluOp} {cin : Bool}
    (h : k = .sub ∧ cin = false ∨ k = .sbc ∧ cin = s.f.getLsbD 0 ∨ k = .cp ∧ cin = false) (v : Byte) :
    s.alu k v = s.setAcc (if k = .cp then s.a else (sub8 s.a v cin).1, (sub8 s.a v cin).2) := by
  obtain ⟨rfl, rfl⟩ | ⟨rfl, rfl⟩ | ⟨rfl, rfl⟩ := h
  · rfl
  · rfl
  · rfl

/-- AND, XOR and OR write the flags of their result, H for AND alone (R205 to R207). -/
theorem State.alu_eq_logic {s : State} {k : AluOp} {v r : Byte}
    (h : k = .and ∧ r = s.a &&& v ∨ k = .xor ∧ r = s.a ^^^ v ∨ k = .or ∧ r = s.a ||| v) :
    s.alu k v = s.setAcc (r, logicFlags (decide (k = .and)) r) := by
  obtain ⟨rfl, rfl⟩ | ⟨rfl, rfl⟩ | ⟨rfl, rfl⟩ := h
  · rfl
  · rfl
  · rfl

/-! ## INC and DEC of a byte of memory (R210, R212, R214, R216) -/

theorem exec_placeInc (m : PlaceForm) (s : State) :
    exec m.inc s =
      .next ((s.modifyMem (m.address s) (inc8 (s.readByte (m.address s)) s.flags)).charge (m.cost 11 23)) := by
  cases m with
  | hl => rfl
  | xyd x d => cases x <;> rfl

theorem exec_placeDec (m : PlaceForm) (s : State) :
    exec m.dec s =
      .next ((s.modifyMem (m.address s) (dec8 (s.readByte (m.address s)) s.flags)).charge (m.cost 11 23)) := by
  cases m with
  | hl => rfl
  | xyd x d => cases x <;> rfl

/-- A byte of memory replaced by a result: F and that byte change, and the rest stays. -/
theorem State.modifyMem_frame {s : State} (h : MemCanonical s) (a : Word) (p : Byte × Flags) (n : Nat) :
    (s.modifyMem a p).charge n =
        { s with f := p.2.toByte, mem := ((s.modifyMem a p).charge n).mem, budget := s.budget + n } ∧
      StoresByte s ((s.modifyMem a p).charge n) a p.1 :=
  ⟨rfl, (State.stores_writeByte h a p.1).congr rfl⟩

/-! ## INC and DEC of a register and of an index half (R209, R211, R213, R215) -/

/-- After a write of a register of the r-table that register alone reads the value written. -/
theorem State.reg8_setReg8_eq_ite (s : State) (r q : Reg8) (v : Byte) :
    (s.setReg8 r v).reg8 q = if q = r then v else s.reg8 q := by
  split
  case isTrue heq => rw [heq, State.reg8_setReg8]
  case isFalse hne => exact s.reg8_setReg8_of_ne hne v

/-- A write of a register of the r-table leaves all but the seven registers. -/
theorem State.setReg8_frame (s : State) (r : Reg8) (v : Byte) :
    s.setReg8 r v = { s with
      a := (s.setReg8 r v).a, b := (s.setReg8 r v).b, c := (s.setReg8 r v).c, d := (s.setReg8 r v).d, e := (s.setReg8 r v).e,
      h := (s.setReg8 r v).h, l := (s.setReg8 r v).l } := by
  cases r <;> rfl

/-- The answer is `s` with the register `r` holding the result and F its flags: no other register, no byte of memory changes. -/
theorem State.setReg8_setFlags_frame (s : State) (r : Reg8) (v : Byte) (g : Flags) (n : Nat) :
    let t := ((s.setReg8 r v).setFlags g).charge n
    t = { s with a := t.a, b := t.b, c := t.c, d := t.d, e := t.e, h := t.h, l := t.l, f := g.toByte, budget := s.budget + n } ∧
      ∀ q : Reg8, t.reg8 q = if q = r then v else s.reg8 q :=
  ⟨congrArg (fun u : State => (u.setFlags g).charge n) (s.setReg8_frame r v), fun q => s.reg8_setReg8_eq_ite r q v⟩

theorem exec_incR (r : Reg8) (s : State) :
    exec (.incR r) s = .next (((s.setReg8 r (s.reg8 r + 1)).setFlags (inc8 (s.reg8 r) s.flags).2).charge 4) := by
  rw [← inc8_fst (s.reg8 r) s.flags]
  rfl

theorem exec_decR (r : Reg8) (s : State) :
    exec (.decR r) s = .next (((s.setReg8 r (s.reg8 r - 1)).setFlags (dec8 (s.reg8 r) s.flags).2).charge 4) := by
  rw [← dec8_fst (s.reg8 r) s.flags]
  rfl

theorem exec_incXyh (x : IdxReg) (s : State) :
    exec (x.pick .incIxh .incIyh) s = .next (((s.setXyh x (s.xyh x + 1)).setFlags (inc8 (s.xyh x) s.flags).2).charge 8) := by
  rw [← inc8_fst (s.xyh x) s.flags]
  cases x <;> rfl

theorem exec_incXyl (x : IdxReg) (s : State) :
    exec (x.pick .incIxl .incIyl) s = .next (((s.setXyl x (s.xyl x + 1)).setFlags (inc8 (s.xyl x) s.flags).2).charge 8) := by
  rw [← inc8_fst (s.xyl x) s.flags]
  cases x <;> rfl

theorem exec_decXyh (x : IdxReg) (s : State) :
    exec (x.pick .decIxh .decIyh) s = .next (((s.setXyh x (s.xyh x - 1)).setFlags (dec8 (s.xyh x) s.flags).2).charge 8) := by
  rw [← dec8_fst (s.xyh x) s.flags]
  cases x <;> rfl

theorem exec_decXyl (x : IdxReg) (s : State) :
    exec (x.pick .decIxl .decIyl) s = .next (((s.setXyl x (s.xyl x - 1)).setFlags (dec8 (s.xyl x) s.flags).2).charge 8) := by
  rw [← dec8_fst (s.xyl x) s.flags]
  cases x <;> rfl

/-! ## DAA (R217; 40_alu.md R118) -/

/-- What DAA adds to A or takes from it. -/
def daaCorrection (a : Byte) (g : Flags) : Byte := (if daaLow a g then 0x06 else 0) ||| (if daaHigh a g then 0x60 else 0)

theorem daaCorrection_eq (a : Byte) (g : Flags) :
    daaCorrection a g =
      (if g.h = true ∨ 9 < a.toNat % 16 then 0x06 else 0) ||| (if g.c = true ∨ 0x99 < a.toNat then 0x60 else 0) := by
  simp [daaCorrection, daaLow, daaHigh]

/-- The add or subtract that N selects, with PV and C written anew. -/
theorem daa_eq (a : Byte) (g : Flags) :
    daa a g =
      (let res := if g.n = true then sub8 a (daaCorrection a g) false else add8 a (daaCorrection a g) false
       (res.1, { res.2 with pv := parity res.1, c := daaHigh a g })) := rfl

theorem daa_fst (a : Byte) (g : Flags) :
    (daa a g).1 = if g.n = true then a - daaCorrection a g else a + daaCorrection a g := by
  rw [← sub8_false_fst, ← add8_false_fst, daa_eq]
  exact apply_ite Prod.fst ..

theorem daa_mirrors (a : Byte) (g : Flags) : Mirrors (daa a g).2 (daa a g).1 := by
  rw [daa_eq]
  split
  case isTrue => exact sub8_mirrors a (daaCorrection a g) false
  case isFalse => exact add8_mirrors a (daaCorrection a g) false

theorem daa_h (a : Byte) (g : Flags) :
    (daa a g).2.h = if g.n = true then decide (a.toNat % 16 < (daaCorrection a g).toNat % 16)
      else decide (0xF < a.toNat % 16 + (daaCorrection a g).toNat % 16) := by
  rw [daa_eq]
  split
  case isTrue => exact sub8_h a (daaCorrection a g) false
  case isFalse => rfl

theorem daa_n (a : Byte) (g : Flags) : (daa a g).2.n = g.n := by
  rw [daa_eq]
  split
  case isTrue hn => exact hn.symm
  case isFalse hn => exact (Bool.eq_false_of_not_eq_true hn).symm

/-! ## CPL and NEG (R218, R219; 40_alu.md R120, R122) -/

theorem cpl8_snd (a : Byte) (g : Flags) :
    (cpl8 a g).2 = { g with h := true, n := true, f5 := !a.getLsbD 5, f3 := !a.getLsbD 3 } := by
  have hbit (k : Nat) (hk : (0xFF : Byte).getLsbD k = true) : (a ^^^ 0xFF).getLsbD k = !a.getLsbD k := by
    rw [BitVec.getLsbD_xor, hk, Bool.xor_true]
  simp only [cpl8, hbit 5 rfl, hbit 3 rfl]

theorem neg8_fst (a : Byte) : (neg8 a).1 = 0 - a := sub8_false_fst 0 a

theorem neg8_mirrors (a : Byte) : Mirrors (neg8 a).2 (0 - a) := by
  rw [← neg8_fst]
  exact sub8_mirrors 0 a false

theorem neg8_h (a : Byte) : (neg8 a).2.h = decide (a.toNat % 16 ≠ 0) :=
  (sub8_h 0 a false).trans (decide_eq_decide.2 Nat.pos_iff_ne_zero)

/-- The one value whose negation is out of range is the lowest. -/
theorem neg8_pv (a : Byte) : (neg8 a).2.pv = decide (a = 0x80) := by
  have hlow : a = 0x80 ↔ a.toInt = -128 := BitVec.toInt_inj.symm
  have hzero : (0 : Byte).toInt = 0 := rfl
  have hrange := toInt_range (w := 7) a
  rw [neg8, sub8_pv_eq_overflows8, overflows8, decide_eq_decide, hlow, hzero, Bool.toNat_false]
  omega

theorem neg8_c (a : Byte) : (neg8 a).2.c = decide (a ≠ 0) := by
  have hzero : a = 0 ↔ a.toNat = 0 := BitVec.toNat_inj.symm
  rw [neg8, sub8_c, decide_eq_decide, ne_eq, hzero]
  exact Nat.pos_iff_ne_zero

/-! ## The obligations -/

/-- Settles O33: both are add8 of A and the operand with their own carry in (State.alu_eq_add8), on every operand form
(exec_alu_of_setAcc). -/
theorem addAndAdc : Obligations.AddAndAdc := by
  unfold Obligations.AddAndAdc
  intro s src k cin h
  exact ⟨_, _, exec_alu_of_setAcc (State.alu_eq_add8 h (src.value s)), add8_toNat .., add8_mirrors .., rfl,
    add8_pv_eq_overflows8 .., rfl, rfl⟩

/-- Settles O34: all three are sub8 of A and the operand with their own borrow in, and CP keeps A (State.alu_eq_sub8). -/
theorem subSbcAndCp : Obligations.SubSbcAndCp := by
  unfold Obligations.SubSbcAndCp
  intro s src k cin h
  exact ⟨_, _, exec_alu_of_setAcc (State.alu_eq_sub8 h (src.value s)), sub8_toNat .., sub8_mirrors .., sub8_h ..,
    sub8_pv_eq_overflows8 .., rfl, sub8_c ..⟩

/-- Settles O35: all three write logicFlags of their result (State.alu_eq_logic). -/
theorem andXorOr : Obligations.AndXorOr := by
  unfold Obligations.AndXorOr
  intro s src k r h
  exact ⟨_, exec_alu_of_setAcc (State.alu_eq_logic h), logicFlags_mirrors .., rfl, parity_eq_evenParity r, rfl, rfl⟩

/-- Settles O37: all three places are modified the same way (exec_placeInc, exec_placeDec), which changes F and that byte alone
(State.modifyMem_frame). -/
theorem incDecMemory8 : Obligations.IncDecMemory8 := by
  unfold Obligations.IncDecMemory8
  rintro s m v hs rfl
  refine ⟨⟨_, exec_placeInc m s, ?inc⟩, ⟨_, exec_placeDec m s, ?dec⟩⟩
  case inc =>
    rw [← inc8_fst (s.readByte (m.address s)) s.flags]
    exact State.modifyMem_frame hs ..
  case dec =>
    rw [← dec8_fst (s.readByte (m.address s)) s.flags]
    exact State.modifyMem_frame hs ..

/-- Settles O38: DAA by the add or subtract that N selects (daa_fst, daa_h, daa_n), CPL bit by bit (cpl8_snd), NEG as the subtract from 0
(neg8_fst, neg8_h, neg8_pv, neg8_c), and CCF and SCF by their definition. -/
theorem accumulatorAdjust : Obligations.AccumulatorAdjust := by
  unfold Obligations.AccumulatorAdjust
  intro s
  refine ⟨?daa, ?cpl, ?neg, ?ccf, ?scf⟩
  case daa =>
    exact ⟨_, _, _, rfl, daaCorrection_eq s.a s.flags, daa_fst s.a s.flags, daa_mirrors s.a s.flags, daa_h s.a s.flags,
      parity_eq_evenParity _, daa_n s.a s.flags, daa_c s.a s.flags⟩
  case cpl => exact ⟨_, rfl, cpl8_snd s.a s.flags⟩
  case neg =>
    refine ⟨_, ?_, neg8_mirrors s.a, neg8_h s.a, neg8_pv s.a, rfl, neg8_c s.a⟩
    rw [← neg8_fst]
    rfl
  case ccf => exact ⟨_, rfl, rfl⟩
  case scf => exact ⟨_, rfl, rfl⟩

/-- Settles O36: the register takes the result and F its flags (exec_incR, exec_decR), and the rest stays (State.setReg8_setFlags_frame); an
index half is written with the other half kept (exec_incXyh and its like). -/
theorem incDecRegister8 : Obligations.IncDecRegister8 := by
  unfold Obligations.IncDecRegister8
  intro s r
  refine ⟨⟨_, exec_incR r s, s.setReg8_setFlags_frame r ..⟩, ⟨_, exec_decR r s, s.setReg8_setFlags_frame r ..⟩, ?_⟩
  exact ⟨exec_incXyh .ix s, exec_incXyl .ix s, exec_decXyh .ix s, exec_decXyl .ix s,
    exec_incXyh .iy s, exec_incXyl .iy s, exec_decXyh .iy s, exec_decXyl .iy s⟩

end Sys2Proof.Machine
end

section
/-! SUPPORT and PROOFS. The family 44_arith16.md: the sums and differences of HL, IX and IY with their flags, and INC and DEC of a pair and
of an index register. Settles O39 to O41. -/

namespace Sys2Proof.Machine

/-! ## The borrows of a 16-bit subtract on numbers that are not truncated (40_alu.md R115) -/

theorem sbc16_h (a b : Word) (cin : Bool) : (sbc16 a b cin).2.h = decide (a.toNat % 4096 < b.toNat % 4096 + cin.toNat) :=
  decide_eq_decide.2 (by omega)

theorem sbc16_c (a b : Word) (cin : Bool) : (sbc16 a b cin).2.c = decide (a.toNat < b.toNat + cin.toNat) :=
  decide_eq_decide.2 (by omega)

/-! ## The sum that leaves S, Z and PV (R114, with `ADD16_SZPV` false) -/

theorem add16_toNat (szpv : Bool) (a b : Word) (g : Flags) : (add16 szpv a b g).1.toNat = (a.toNat + b.toNat) % 65536 :=
  BitVec.toNat_ofNat _ 16

theorem add16_false_snd (a b : Word) (g : Flags) :
    (add16 false a b g).2 = { g with
      h := decide (0xFFF < a.toNat % 4096 + b.toNat % 4096), n := false, c := decide (0xFFFF < a.toNat + b.toNat)
      f5 := (add16 false a b g).1.getLsbD 13, f3 := (add16 false a b g).1.getLsbD 11 } :=
  add16_flags false a b g

/-! ## A result and its flags: what the instructions write (44_arith16.md R230 to R233) -/

/-- `s` with the result and the flags of `p` in HL and F, and `n` more in the budget. -/
def State.withHlResult (s : State) (p : Word × Flags) (n : Nat) : State :=
  { s with h := hiByte p.1, l := loByte p.1, f := p.2.toByte, budget := s.budget + n }

theorem exec_addHlSs (ss : Pair) (s : State) :
    exec (.addHlSs ss) s = .next (s.withHlResult (add16 false (wordOf s.h s.l) (s.pair ss) s.flags) 11) := rfl

theorem exec_adcHlSs (ss : Pair) (s : State) :
    exec (.adcHlSs ss) s = .next (s.withHlResult (adc16 (wordOf s.h s.l) (s.pair ss) (s.f.getLsbD 0)) 15) := rfl

theorem exec_sbcHlSs (ss : Pair) (s : State) :
    exec (.sbcHlSs ss) s = .next (s.withHlResult (sbc16 (wordOf s.h s.l) (s.pair ss) (s.f.getLsbD 0)) 15) := rfl

theorem exec_addIxPp (pp : PairX) (s : State) :
    exec (.addIxPp pp) s = .next { s with
      ix := (add16 false s.ix (s.pairX .ix pp) s.flags).1, f := (add16 false s.ix (s.pairX .ix pp) s.flags).2.toByte
      budget := s.budget + 15 } := rfl

theorem exec_addIyPp (pp : PairX) (s : State) :
    exec (.addIyPp pp) s = .next { s with
      iy := (add16 false s.iy (s.pairX .iy pp) s.flags).1, f := (add16 false s.iy (s.pairX .iy pp) s.flags).2.toByte
      budget := s.budget + 15 } := rfl

/-! ## The obligations -/

/-- Settles O40: HL and F are adc16 and sbc16 of HL, the pair and C (exec_adcHlSs, exec_sbcHlSs), and PV, found by the signs, is the signed
result out of range (adc16_pv_eq_overflows16, sbc16_pv_eq_overflows16). -/
theorem adcSbcPair16 : Obligations.AdcSbcPair16 := by
  unfold Obligations.AdcSbcPair16
  rintro s ss hl v cin rfl rfl rfl
  refine ⟨⟨_, _, exec_adcHlSs ss s, ?adc⟩, ⟨_, _, exec_sbcHlSs ss s, ?sbc⟩⟩
  case adc => exact ⟨adc16_toNat .., adc16_mirrors .., rfl, adc16_pv_eq_overflows16 .., rfl, rfl⟩
  case sbc => exact ⟨sbc16_toNat .., sbc16_mirrors .., sbc16_h .., sbc16_pv_eq_overflows16 .., rfl, sbc16_c ..⟩

/-- Settles O39: all three write add16 of the register and the operand (exec_addHlSs, exec_addIxPp, exec_addIyPp), whose flags keep S, Z and
PV (add16_false_snd). -/
theorem addPair16 : Obligations.AddPair16 := by
  unfold Obligations.AddPair16
  intro s ss pp after
  refine ⟨⟨_, _, exec_addHlSs ss s, ?hl⟩, ⟨_, _, exec_addIxPp pp s, ?ix⟩, ⟨_, _, exec_addIyPp pp s, ?iy⟩⟩
  case hl => exact ⟨add16_toNat .., add16_false_snd ..⟩
  case ix => exact ⟨add16_toNat .., add16_false_snd ..⟩
  case iy => exact ⟨add16_toNat .., add16_false_snd ..⟩

/-- Settles O41: each form ends in a write of its register, and what that write changes is LoadsPair.of_setPair and LoadsXy.of_setXy. -/
theorem incDecPair16 : Obligations.IncDecPair16 := by
  unfold Obligations.IncDecPair16
  intro s ss
  refine ⟨?incSs, ?decSs, ?incIx, ?incIy, ?decIx, ?decIy⟩
  case incSs => exact .of_setPair s ss (s.pair ss + 1) 6
  case decSs => exact .of_setPair s ss (s.pair ss - 1) 6
  case incIx => exact .of_setXy s .ix (s.ix + 1) 10
  case incIy => exact .of_setXy s .iy (s.iy + 1) 10
  case decIx => exact .of_setXy s .ix (s.ix - 1) 10
  case decIy => exact .of_setXy s .iy (s.iy - 1) 10

end Sys2Proof.Machine
end

section
/-! SUPPORT and PROOFS. The family 45_rotate_bit.md: the rotates and shifts of A, of a register and of a byte of memory, BIT, RES and SET,
the indexed forms that copy their result to a register, and the nibble rotates. Settles O42 to O47. -/

namespace Sys2Proof.Machine

/-! ## The rotates and shifts by the table of R110 -/

/-- The flags of a rotate or shift (40_alu.md R110): those of a logic operation, but C is the outgoing bit. -/
def rotFlags (r : Byte) (out : Bool) : Flags := { logicFlags false r with c := out }

theorem rotFlags_spec (r : Byte) (out : Bool) :
    Mirrors (rotFlags r out) r ∧ (rotFlags r out).h = false ∧ (rotFlags r out).pv = evenParity r ∧ (rotFlags r out).n = false ∧
      (rotFlags r out).c = out :=
  ⟨.of_bits rfl rfl rfl rfl, rfl, parity_eq_evenParity r, rfl, rfl⟩

section
variable {k : RotOp} {v r : Byte} {out : Bool}

theorem rot8_of_rotTable {cin : Bool} (h : (r, out) = rotTable v cin k) : rot8 k v cin = (r, rotFlags r out) := by
  have hres : rotResult k v cin = (r, out) := (rotResult_eq_rotTable k v cin).trans h.symm
  simp only [rot8, hres]
  rfl

/-- The accumulator rotates keep S, Z and PV (R111). -/
theorem rota8_of_rotTable {g : Flags} (h : (r, out) = rotTable v g.c k) :
    rota8 k v g = (r, { g with f5 := r.getLsbD 5, f3 := r.getLsbD 3, h := false, n := false, c := out }) := by
  have hres : rotResult k v g.c = (r, out) := (rotResult_eq_rotTable k v g.c).trans h.symm
  simp only [rota8, hres]

end

theorem exec_rotAcc {i : Instr} {k : RotOp}
    (h : i = .rlca ∧ k = .rlc ∨ i = .rrca ∧ k = .rrc ∨ i = .rla ∧ k = .rl ∨ i = .rra ∧ k = .rr) (s : State) :
    exec i s = .next ((s.setAcc (rota8 k s.a s.flags)).charge 4) := by
  obtain ⟨rfl, rfl⟩ | ⟨rfl, rfl⟩ | ⟨rfl, rfl⟩ | ⟨rfl, rfl⟩ := h
  · rfl
  · rfl
  · rfl
  · rfl

theorem exec_rotReg (q : Reg8) (k : RotOp) (s : State) :
    exec (rotReg q k) s =
      .next (((s.setReg8 q (rot8 k (s.reg8 q) (s.f.getLsbD 0)).1).setFlags (rot8 k (s.reg8 q) (s.f.getLsbD 0)).2).charge 8) := by
  cases k <;> rfl

theorem exec_placeRot (m : PlaceForm) (k : RotOp) (s : State) :
    exec (m.rot k) s =
      .next ((s.modifyMem (m.address s) (rot8 k (s.readByte (m.address s)) (s.f.getLsbD 0))).charge (m.cost 15 23)) := by
  cases m with
  | hl => cases k <;> rfl
  | xyd x d => cases k <;> cases x <;> rfl

/-! ## A result stored in memory and copied to a register (R261, D11) -/

/-- `s` with the byte `v` stored at `a` and copied to the register `q`, and F as given. -/
def State.storeAndCopy (s : State) (a : Word) (q : Reg8) (v f : Byte) : State := { s.writeByte a v with f := f }.setReg8 q v

/-- The copy is made whether or not the store is discarded. -/
theorem State.storeAndCopy_frame {s : State} (h : MemCanonical s) (a : Word) (q : Reg8) (v f : Byte) (n : Nat) :
    let t := (s.storeAndCopy a q v f).charge n
    t = { s with a := t.a, b := t.b, c := t.c, d := t.d, e := t.e, h := t.h, l := t.l, f := f, mem := t.mem,
                 budget := s.budget + n } ∧
      (∀ p : Reg8, t.reg8 p = if p = q then v else s.reg8 p) ∧ StoresByte s t a v := by
  refine ⟨?frame, fun p => ?reg, ?mem⟩
  case frame => cases q <;> rfl
  case reg =>
    have hreg : ({ s.writeByte a v with f := f } : State).reg8 p = s.reg8 p := by cases p <;> rfl
    rw [← hreg]
    exact State.reg8_setReg8_eq_ite _ q p v
  case mem => exact (State.stores_writeByte h a v).congr (State.setReg8_mem _ q v)

theorem exec_rotMemXydReg (x : IdxReg) (d : Byte) (q : Reg8) (k : RotOp) (s : State) :
    exec (rotMemXydReg x d q k) s =
      .next ((s.storeAndCopy (addOffset (s.xy x) d) q (rot8 k (s.readByte (addOffset (s.xy x) d)) (s.f.getLsbD 0)).1
        (rot8 k (s.readByte (addOffset (s.xy x) d)) (s.f.getLsbD 0)).2.toByte).charge 23) := by
  cases k <;> cases x <;> rfl

theorem exec_resBMemXydR (x : IdxReg) (b : Fin 8) (d : Byte) (q : Reg8) (s : State) :
    exec (x.pick (.resBMemIxdR b d q) (.resBMemIydR b d q)) s =
      .next ((s.storeAndCopy (addOffset (s.xy x) d) q (res8 b (s.readByte (addOffset (s.xy x) d))) s.f).charge 23) := by
  cases x <;> rfl

theorem exec_setBMemXydR (x : IdxReg) (b : Fin 8) (d : Byte) (q : Reg8) (s : State) :
    exec (x.pick (.setBMemIxdR b d q) (.setBMemIydR b d q)) s =
      .next ((s.storeAndCopy (addOffset (s.xy x) d) q (set8 b (s.readByte (addOffset (s.xy x) d))) s.f).charge 23) := by
  cases x <;> rfl

/-! ## BIT, RES and SET in memory -/

/-- The bit that S shows is the tested one where that is bit 7 (40_alu.md R112, D34). -/
theorem bit8_eq (b : Fin 8) (v : Byte) (g : Flags) :
    bit8 b v g = { g with z := !v.getLsbD b, pv := !v.getLsbD b, s := decide (b = 7) && v.getLsbD 7, h := true,
                          n := false, f5 := v.getLsbD 5, f3 := v.getLsbD 3 } := by
  have hs : ((b == 7) && v.getLsbD b) = (decide (b = 7) && v.getLsbD 7) := by
    by_cases hb : b = 7
    · rw [hb]
      rfl
    · simp [hb]
  rw [← hs]
  rfl

theorem exec_placeBit (m : PlaceForm) (b : Fin 8) (s : State) :
    exec (m.bit b) s = .next ((s.setFlags (bit8 b (s.readByte (m.address s)) s.flags)).charge (m.cost 12 20)) := by
  cases m with
  | hl => rfl
  | xyd x d => cases x <;> rfl

theorem exec_placeRes (m : PlaceForm) (b : Fin 8) (s : State) :
    exec (m.res b) s =
      .next ((s.writeByte (m.address s) (res8 b (s.readByte (m.address s)))).charge (m.cost 15 23)) := by
  cases m with
  | hl => rfl
  | xyd x d => cases x <;> rfl

theorem exec_placeSet (m : PlaceForm) (b : Fin 8) (s : State) :
    exec (m.set b) s =
      .next ((s.writeByte (m.address s) (set8 b (s.readByte (m.address s)))).charge (m.cost 15 23)) := by
  cases m with
  | hl => rfl
  | xyd x d => cases x <;> rfl

/-! ## The nibbles (40_alu.md R119) -/

section
variable (v : Byte)

theorem and_0xF0 : v &&& (0xF0 : Byte) = v.extractLsb' 4 4 ++ 0#4 := by revert v; decide
theorem and_0x0F : v &&& (0x0F : Byte) = 0#4 ++ v.extractLsb' 0 4 := by revert v; decide
theorem shiftLeft_four : v <<< 4 = v.extractLsb' 0 4 ++ 0#4 := by revert v; decide
theorem shiftRight_four : v >>> 4 = 0#4 ++ v.extractLsb' 4 4 := by revert v; decide

end

theorem or_nibbles (high low : BitVec 4) : (high ++ 0#4 : Byte) ||| (0#4 ++ low : Byte) = high ++ low := by
  rw [BitVec.or_append, BitVec.or_zero, BitVec.zero_or]

theorem rld8_eq (a m : Byte) (g : Flags) :
    rld8 a m g =
      (a.extractLsb' 4 4 ++ m.extractLsb' 4 4, m.extractLsb' 0 4 ++ a.extractLsb' 0 4,
        nibbleFlags (a.extractLsb' 4 4 ++ m.extractLsb' 4 4) g) := by
  simp only [rld8, Nat.cast_ofNat, and_0xF0, and_0x0F, shiftLeft_four, shiftRight_four, or_nibbles]

theorem rrd8_eq (a m : Byte) (g : Flags) :
    rrd8 a m g =
      (a.extractLsb' 4 4 ++ m.extractLsb' 0 4, a.extractLsb' 0 4 ++ m.extractLsb' 4 4,
        nibbleFlags (a.extractLsb' 4 4 ++ m.extractLsb' 0 4) g) := by
  simp only [rrd8, and_0xF0, and_0x0F, shiftLeft_four, shiftRight_four, or_nibbles]

theorem nibbleFlags_spec (r : Byte) (g : Flags) :
    Mirrors (nibbleFlags r g) r ∧ (nibbleFlags r g).h = false ∧ (nibbleFlags r g).pv = evenParity r ∧ (nibbleFlags r g).n = false ∧
      (nibbleFlags r g).c = g.c :=
  ⟨.of_bits rfl rfl rfl rfl, rfl, parity_eq_evenParity r, rfl, rfl⟩

/-- `s` with the new A, the new byte at HL and the flags of `p` (45_rotate_bit.md R266, R267). -/
def State.moveNibbles (s : State) (p : Byte × Byte × Flags) : State := (s.writeByte s.hl p.2.1).setAcc (p.1, p.2.2)

theorem exec_rld (s : State) : exec .rld s = .next ((s.moveNibbles (rld8 s.a (s.readByte s.hl) s.flags)).charge 18) := rfl

theorem exec_rrd (s : State) : exec .rrd s = .next ((s.moveNibbles (rrd8 s.a (s.readByte s.hl) s.flags)).charge 18) := rfl

theorem State.moveNibbles_stores {s : State} (h : MemCanonical s) (p : Byte × Byte × Flags) (n : Nat) :
    StoresByte s ((s.moveNibbles p).charge n) (wordOf s.h s.l) p.2.1 := (State.stores_writeByte h s.hl p.2.1).congr rfl

/-! ## The obligations -/

/-- Settles O44: a byte of memory is modified the same way in every form (exec_placeRot), and the copy is made beside the store
(State.storeAndCopy_frame); result and flags are those of the table (rot8_of_rotTable). -/
theorem rotateMemory : Obligations.RotateMemory := by
  unfold Obligations.RotateMemory
  refine ⟨?place, ?copy⟩
  case place =>
    intro s k m r out hs hr
    have hexec := exec_placeRot m k s
    rw [rot8_of_rotTable hr] at hexec
    obtain ⟨hframe, hmem⟩ := State.modifyMem_frame hs (m.address s) (r, rotFlags r out) (m.cost 15 23)
    exact ⟨_, _, hexec, hframe, hmem, rotFlags_spec r out⟩
  case copy =>
    rintro s k x d q _ r out hs rfl hr
    have hexec := exec_rotMemXydReg x d q k s
    rw [rot8_of_rotTable hr] at hexec
    obtain ⟨hframe, hreg, hmem⟩ := State.storeAndCopy_frame hs (addOffset (s.xy x) d) q r (rotFlags r out).toByte 23
    exact ⟨_, _, hexec, hframe, hreg, hmem, rotFlags_spec r out⟩

/-- Settles O43: the register takes the result of the table and F its flags (rot8_of_rotTable), and the rest stays
(State.setReg8_setFlags_frame). -/
theorem rotateRegister : Obligations.RotateRegister := by
  unfold Obligations.RotateRegister
  intro s k q r' r out hr
  have hexec := exec_rotReg q k s
  rw [rot8_of_rotTable hr] at hexec
  obtain ⟨hframe, hreg⟩ := s.setReg8_setFlags_frame q r (rotFlags r out) 8
  exact ⟨_, _, hexec, hframe, hreg r', rotFlags_spec r out⟩

/-- Settles O45: every form writes the flags of bit8, which are those of the statement (bit8_eq). -/
theorem bitTests : Obligations.BitTests := by
  unfold Obligations.BitTests
  intro s b q m flagsOf
  refine ⟨?reg, ?place⟩
  case reg => exact congrArg (fun g => Host.Outcome.next ((s.setFlags g).charge 8)) (bit8_eq b (s.reg8 q) s.flags)
  case place =>
    rw [exec_placeBit, bit8_eq]
    rfl

/-- Settles O46: each form writes res8 or set8 of its operand, which differ from it in the one bit (getLsbD_res8, getLsbD_set8), to a
register, to memory or to both. -/
theorem resAndSet : Obligations.ResAndSet := by
  unfold Obligations.ResAndSet
  refine ⟨?reg, ?mem⟩
  case reg =>
    exact fun s b q => ⟨res8 b (s.reg8 q), set8 b (s.reg8 q), fun k => getLsbD_res8 b k _, fun k => getLsbD_set8 b k _,
      .of_setReg8 s q _ 8, .of_setReg8 s q _ 8⟩
  case mem =>
    intro s b m x d q hs cleared made a copies
    have hcleared (v : Byte) : cleared v (res8 b v) := fun k => getLsbD_res8 b k v
    have hmade (v : Byte) : made v (set8 b v) := fun k => getLsbD_set8 b k v
    refine ⟨⟨_, hcleared _, ?res⟩, ⟨_, hmade _, ?set⟩, ⟨_, hcleared _, ?resCopy⟩, ⟨_, hmade _, ?setCopy⟩⟩
    case res =>
      rw [exec_placeRes]
      exact .of_writeByte hs ..
    case set =>
      rw [exec_placeSet]
      exact .of_writeByte hs ..
    case resCopy => exact ⟨_, exec_resBMemXydR x b d q s, State.storeAndCopy_frame hs ..⟩
    case setCopy => exact ⟨_, exec_setBMemXydR x b d q s, State.storeAndCopy_frame hs ..⟩

/-- Settles O47: the masks and shifts of R119 take nibbles and put them together (rld8_eq, rrd8_eq); the flags come from the new A
(nibbleFlags_spec). -/
theorem nibbleRotates : Obligations.NibbleRotates := by
  unfold Obligations.NibbleRotates
  rintro s _ hs rfl after
  refine ⟨?rld, ?rrd⟩
  case rld =>
    have hexec := exec_rld s
    rw [rld8_eq] at hexec
    exact ⟨_, _, hexec, rfl, State.moveNibbles_stores hs _ 18, nibbleFlags_spec ..⟩
  case rrd =>
    have hexec := exec_rrd s
    rw [rrd8_eq] at hexec
    exact ⟨_, _, hexec, rfl, State.moveNibbles_stores hs _ 18, nibbleFlags_spec ..⟩

/-- Settles O42: all four write rota8 of A (exec_rotAcc), which is the table's result with S, Z and PV kept (rota8_of_rotTable). -/
theorem rotateAccumulator : Obligations.RotateAccumulator := by
  unfold Obligations.RotateAccumulator
  intro s i k r out hi hr
  rw [exec_rotAcc hi, rota8_of_rotTable hr]
  rfl

end Sys2Proof.Machine
end

section
/-! SUPPORT and PROOFS. The family 46_control.md: the absolute, relative and counted jumps, the calls and the returns. Settles O48 and
O49. -/

namespace Sys2Proof.Machine

/-! ## The condition, the target of a relative jump and that of a restart -/

/-- The condition of the meanings, read from the flags, is the one of the statements, read from the bits of F (30_encoding.md R80). -/
theorem State.cond_eq_condHolds (s : State) (cc : Cond) : s.cond cc = condHolds s.f cc := by
  cases cc
  case nz | nc | po | p => exact (beq_false _).symm
  case z | c | pe | m => exact (beq_true _).symm

theorem addOffset_eq_iff {base target : Word} {e : Byte} :
    addOffset base e = target ↔ (target.toNat : Int) = ((base.toNat : Int) + e.toInt) % 65536 := by
  have hoffset : ((addOffset base e).toNat : Int) = ((base.toNat : Int) + e.toInt) % 65536 := coe_toNat_ofInt 16 _
  rw [← hoffset, Int.natCast_inj, BitVec.toNat_inj, eq_comm]

theorem wordOf_zero_left (p : Byte) : wordOf 0 p = p.setWidth 16 := by
  apply BitVec.eq_of_toNat_eq
  rw [wordOf_toNat, BitVec.toNat_setWidth_of_le (by decide)]
  exact Nat.zero_add _

/-! ## The conditional instructions: the path taken and the other, each with its cost (46_control.md R284) -/

/-- An instruction whose condition chooses both its effect and its cost is one of two charged states. -/
theorem finishBranch_ite (P : Params) (i : Instr) (taken : Bool) (t u : State) :
    finishBranch P i taken (if taken then t else u) =
      if taken = true then .next (t.charge ((P.cycles i).cost true)) else .next (u.charge ((P.cycles i).cost false)) := by
  cases taken <;> rfl

theorem exec_jpCcNn (cc : Cond) (nn : Word) (s : State) :
    exec (.jpCcNn cc nn) s =
      if condHolds s.f cc = true then .next ({ s with pc := nn }.charge 10) else .next (s.charge 10) := by
  rw [← s.cond_eq_condHolds]
  exact finishBranch_ite ..

theorem exec_jrCcE (cc : Cond) (e : Byte) (s : State) :
    exec (.jrCcE cc e) s = if condHolds s.f cc = true then .next ((s.jumpRel e).charge 12) else .next (s.charge 7) := by
  rw [← s.cond_eq_condHolds]
  exact finishBranch_ite ..

theorem exec_callCcNn (cc : Cond) (nn : Word) (s : State) :
    exec (.callCcNn cc nn) s = if condHolds s.f cc = true then .next ((s.callTo nn).charge 17) else .next (s.charge 10) := by
  rw [← s.cond_eq_condHolds]
  exact finishBranch_ite ..

theorem exec_retCc (cc : Cond) (s : State) :
    exec (.retCc cc) s = if condHolds s.f cc = true then .next (s.popPc.charge 11) else .next (s.charge 5) := by
  rw [← s.cond_eq_condHolds]
  exact finishBranch_ite ..

/-- DJNZ jumps unless the decrement gives 0, which it does from 1 alone (R276). -/
theorem exec_djnzE (e : Byte) (s : State) :
    exec (.djnzE e) s =
      if s.b = 1 then .next ({ s with b := 0 }.charge 8)
      else .next (({ s with b := s.b - 1 }.jumpRel e).charge 13) := by
  have hexec : exec (.djnzE e) s =
      if (s.b - 1 != 0) = true then .next (({ s with b := s.b - 1 }.jumpRel e).charge 13)
      else .next ({ s with b := s.b - 1 }.charge 8) := finishBranch_ite ..
  rw [hexec]
  by_cases hb : s.b = 1
  case pos =>
    have hzero : s.b - 1 = 0 := sub_eq_zero.2 hb
    rw [hzero, if_pos hb]
    rfl
  case neg =>
    have hne : s.b - 1 ≠ 0 := sub_ne_zero.2 hb
    rw [if_neg hb, if_pos (bne_iff_ne.2 hne)]

/-! ## The obligations -/

/-- Settles O48: the target of the relative jumps is addOffset of PC (addOffset_eq_iff), and the conditional forms take one of two paths
(exec_jpCcNn, exec_jrCcE, exec_djnzE). -/
theorem jumps : Obligations.Jumps := by
  unfold Obligations.Jumps
  refine ⟨fun s cc nn => ⟨?jp, ?jpCc, ?jpHl, ?jpIx, ?jpIy⟩, fun s cc e target htarget => ?relative⟩
  case jp => rfl
  case jpCc =>
    rw [exec_jpCcNn]
    split <;> rfl
  case jpHl => rfl
  case jpIx => rfl
  case jpIy => rfl
  case relative =>
    obtain rfl := addOffset_eq_iff.2 htarget
    exact ⟨rfl, exec_jrCcE cc e s, exec_djnzE e s⟩

/-- Settles O49: CALL and RST are callTo with their cost (PushesAndGoes.of_callTo), the returns are popPc, and the conditional forms take
one of two paths (exec_callCcNn, exec_retCc). -/
theorem callsAndReturns : Obligations.CallsAndReturns := by
  unfold Obligations.CallsAndReturns
  refine ⟨fun s cc nn p hs => ⟨?call, ?callTaken, ?callNotTaken, ?rst⟩, fun s cc => ⟨?ret, ?retCc, ?retn, ?reti⟩⟩
  case call => exact .of_callTo hs nn 17
  case callTaken =>
    intro hcc
    rw [exec_callCcNn, if_pos hcc]
    exact .of_callTo hs nn 17
  case callNotTaken =>
    intro hcc
    rw [exec_callCcNn, if_neg (ne_true_of_eq_false hcc)]
    rfl
  case rst =>
    rw [← wordOf_zero_left]
    exact .of_callTo hs (wordOf 0 p) 11
  case ret => rfl
  case retCc => exact exec_retCc cc s
  case retn => rfl
  case reti => rfl

end Sys2Proof.Machine
end

section
/-! SUPPORT and PROOFS. The family 47_block.md: the single steps, the repeat loop as one turn and the rest at the default setting, and
what many turns of a transfer and of a compare leave. Settles O50 to O55. -/

namespace Sys2Proof.Machine

/-! ## The pointers, the counter and the flags -/

theorem bne_eq_decide_ne {α : Type} [DecidableEq α] (x y : α) : (x != y) = decide (x ≠ y) := (decide_not ..).symm

theorem BlockDir.ahead_zero (dir : BlockDir) (w : Word) : dir.ahead w 0 = w := by
  cases dir
  case up => exact BitVec.add_zero w
  case down => exact BitVec.sub_zero w

theorem BlockDir.ahead_succ (dir : BlockDir) (w : Word) (k : Nat) : dir.ahead w (k + 1) = dir.move (dir.ahead w k) := by
  cases dir
  case up =>
    simp only [BlockDir.ahead, BlockDir.move]
    rw [BitVec.ofNat_add, BitVec.add_assoc]
    rfl
  case down =>
    simp only [BlockDir.ahead, BlockDir.move]
    rw [BitVec.ofNat_add, ← BitVec.sub_sub]
    rfl

theorem BlockDir.ahead_one (dir : BlockDir) (w : Word) : dir.ahead w 1 = dir.move w := by
  rw [dir.ahead_succ, dir.ahead_zero]

theorem BlockDir.iterate_move (dir : BlockDir) (w : Word) (k : Nat) : dir.move^[k] w = dir.ahead w k := by
  induction k with
  | zero => exact (dir.ahead_zero w).symm
  | succ k ih => rw [Function.iterate_succ_apply', ih, dir.ahead_succ]

theorem BlockDir.ahead_ahead_one (dir : BlockDir) (w : Word) (k : Nat) : dir.ahead (dir.ahead w 1) k = dir.ahead w (k + 1) := by
  simp only [← dir.iterate_move, Function.iterate_succ_apply, Function.iterate_zero_apply]

/-- Fewer than 65536 moves do not come back to the same address. -/
theorem BlockDir.ahead_injective {dir : BlockDir} {w : Word} {j k : Nat} (hj : j < 65536) (hk : k < 65536)
    (h : dir.ahead w j = dir.ahead w k) : j = k := by
  cases dir <;> simp only [BlockDir.ahead] at h <;> bv_omega

/-- The counter is 0 after its last iteration and not before (R308, R309). -/
theorem counter_eq_zero_iff {w : Word} {k : Nat} (hpos : 1 ≤ k) (hle : k ≤ iterations16 w) :
    BlockDir.down.ahead w k = 0 ↔ k = iterations16 w := by
  simp only [BlockDir.ahead]
  by_cases hw : w = 0
  case pos =>
    rw [iterations16, if_pos hw] at *
    bv_omega
  case neg =>
    rw [iterations16, if_neg hw] at *
    bv_omega

theorem State.hiByte_bc (s : State) : hiByte s.bc = s.b := hiByte_wordOf s.b s.c
theorem State.loByte_bc (s : State) : loByte s.bc = s.c := loByte_wordOf s.b s.c

/-! ## The single steps (R300 to R307) -/

theorem exec_ldStep {i : Instr} {dir : BlockDir} (h : i = .ldi ∧ dir = .up ∨ i = .ldd ∧ dir = .down) (s : State) :
    exec i s = .next ((s.ldStep dir).charge 16) := by
  obtain ⟨rfl, rfl⟩ | ⟨rfl, rfl⟩ := h
  · rfl
  · rfl

theorem exec_cpStep {i : Instr} {dir : BlockDir} (h : i = .cpi ∧ dir = .up ∨ i = .cpd ∧ dir = .down) (s : State) :
    exec i s = .next ((s.cpStep dir).charge 16) := by
  obtain ⟨rfl, rfl⟩ | ⟨rfl, rfl⟩ := h
  · rfl
  · rfl

theorem exec_inStep (dir : BlockDir) (s : State) :
    exec (match dir with | .up => .ini | .down => .ind) s = .next ((s.inStep Config.ioBlockCarry dir).charge 16) := by
  cases dir
  case up => rfl
  case down => rfl

theorem exec_outStep (dir : BlockDir) (s : State) :
    exec (match dir with | .up => .outi | .down => .outd) s = .next ((s.outStep Config.ioBlockCarry dir).charge 16) := by
  cases dir
  case up => rfl
  case down => rfl

theorem State.ldStep_hl (s : State) (dir : BlockDir) : (s.ldStep dir).hl = dir.move s.hl := wordOf_hiByte_loByte _
theorem State.ldStep_de (s : State) (dir : BlockDir) : (s.ldStep dir).de = dir.move s.de := wordOf_hiByte_loByte _
theorem State.cpStep_hl (s : State) (dir : BlockDir) : (s.cpStep dir).hl = dir.move s.hl := wordOf_hiByte_loByte _
theorem State.inStep_hl (s : State) (carry : Bool) (dir : BlockDir) : (s.inStep carry dir).hl = dir.move s.hl :=
  wordOf_hiByte_loByte _
theorem State.outStep_hl (s : State) (carry : Bool) (dir : BlockDir) : (s.outStep carry dir).hl = dir.move s.hl :=
  wordOf_hiByte_loByte _

theorem State.ldStep_flags (s : State) (dir : BlockDir) : (s.ldStep dir).flags = ldBlockFlags (s.bc - 1) s.flags :=
  Flags.ofByte_toByte _
theorem State.cpStep_flags (s : State) (dir : BlockDir) :
    (s.cpStep dir).flags = cpBlockFlags s.a (s.readByte s.hl) (s.bc - 1) s.flags := Flags.ofByte_toByte _

/-- A transfer stores once, at DE, the byte read at HL before. -/
theorem State.ldStep_stores {s : State} (h : MemCanonical s) (dir : BlockDir) :
    StoresByte s (s.ldStep dir) s.de (s.readByte s.hl) := (State.stores_writeByte h s.de (s.readByte s.hl)).congr rfl

/-- An input stores once, at HL, the byte read from the port at BC (D20, D29). -/
theorem State.inStep_stores {s : State} (h : MemCanonical s) (carry : Bool) (dir : BlockDir) :
    StoresByte s (s.inStep carry dir) s.hl (s.portValue s.bc) := (State.stores_writeByte h s.hl (s.portValue s.bc)).congr rfl

theorem ldBlockFlags_eq (bc : Word) (g : Flags) :
    ldBlockFlags bc g = { g with pv := decide (bc ≠ 0), h := false, n := false } := by
  rw [ldBlockFlags, bne_eq_decide_ne]

theorem ioBlockFlags_eq (carry : Bool) (b : Byte) (g : Flags) :
    ioBlockFlags carry b g = { g with z := decide (b = 0), n := true, c := carry } := rfl

/-- The flags of a compare are those of the subtraction, but for PV and C (R302, D27). -/
theorem cpBlockFlags_spec (a v : Byte) (bc : Word) (g : Flags) :
    Mirrors (cpBlockFlags a v bc g) (a - v) ∧ (cpBlockFlags a v bc g).h = decide (a.toNat % 16 < v.toNat % 16) ∧
      (cpBlockFlags a v bc g).pv = decide (bc ≠ 0) ∧ (cpBlockFlags a v bc g).n = true ∧ (cpBlockFlags a v bc g).c = g.c := by
  refine ⟨?mirrors, sub8_h a v false, bne_eq_decide_ne bc 0, rfl, rfl⟩
  case mirrors =>
    rw [← sub8_false_fst]
    exact .of_bits rfl rfl rfl rfl

/-- The flags of a compare that matches. -/
theorem cpBlockFlags_self (a : Byte) (bc : Word) (g : Flags) :
    cpBlockFlags a a bc g =
      { s := false, z := true, f5 := false, h := false, f3 := false, pv := decide (bc ≠ 0), n := true, c := g.c } := by
  have hsub : (sub8 a a false).2 =
      { s := false, z := true, f5 := false, h := false, f3 := false, pv := false, n := true, c := false } := by
    simp [sub8]
  rw [cpBlockFlags, hsub, bne_eq_decide_ne]

/-! ## The repeat loop, one turn and the rest (R308) -/

/-- R counted by `m` and `n` cycles charged: what the loop does to a state beside its iterations. -/
def State.tick (s : State) (m n : Nat) : State := (s.incR m).charge n

@[simp] theorem State.tick_pc (s : State) (m n : Nat) : (s.tick m n).pc = s.pc := rfl
@[simp] theorem State.tick_budget (s : State) (m n : Nat) : (s.tick m n).budget = s.budget + n := rfl

theorem State.tick_tick (s : State) (m n p q : Nat) : (s.tick m n).tick p q = s.tick (m + p) (n + q) := by
  simp only [State.tick, State.incR, State.charge, bumpR_bumpR, Nat.cast_add, Int.add_assoc]

theorem State.charge_tick (s : State) (k m n : Nat) : (s.charge k).tick m n = s.tick m (k + n) := (s.incR m).charge_charge k n

/-- What a turn of the loop needs of an iteration, of the test for the end and of the counter beside RepeatBody: none of them looks at
what the loop does to R and the budget, the test not at PC either, and an iteration that another follows counts down by one. -/
structure RepeatTurn (body : State → State) (ended : State → Bool) (count : State → Nat) : Prop
    extends RepeatBody body ended count where
  body_charge : ∀ s n, body (s.charge n) = (body s).charge n
  ended_charge : ∀ s n, ended (s.charge n) = ended s
  ended_rewindPc : ∀ s, ended s.rewindPc = ended s
  count_setR : ∀ s x, count (s.setR x) = count s
  count_charge : ∀ s n, count (s.charge n) = count s
  count_succ : ∀ s, ended (body s) = false → count (body s) + 1 = count s

theorem iterations16_pred {w : Word} (h : w - 1 ≠ 0) : iterations16 (w - 1) + 1 = iterations16 w := by
  unfold iterations16
  rw [if_neg h]
  split <;> bv_omega

theorem iterations8_pred {v : Byte} (h : v - 1 ≠ 0) : iterations8 (v - 1) + 1 = iterations8 v := by
  unfold iterations8
  rw [if_neg h]
  split <;> bv_omega

theorem iterations16_le (w : Word) : iterations16 w ≤ 65536 := by
  unfold iterations16
  split
  · exact Nat.le_refl _
  · exact w.isLt.le

theorem ldStep_repeatTurn (dir : BlockDir) : RepeatTurn (·.ldStep dir) State.ldEnded (iterations16 ·.bc) where
  toRepeatBody := ldStep_repeatBody dir
  body_charge _ _ := rfl
  ended_charge _ _ := rfl
  ended_rewindPc _ := rfl
  count_setR _ _ := rfl
  count_charge _ _ := rfl
  count_succ s h := by
    have hbc := State.bc_ne_zero_of_not_ldEnded h
    rw [State.ldStep_bc] at hbc ⊢
    exact iterations16_pred hbc

theorem cpStep_repeatTurn (dir : BlockDir) : RepeatTurn (·.cpStep dir) State.cpEnded (iterations16 ·.bc) where
  toRepeatBody := cpStep_repeatBody dir
  body_charge _ _ := rfl
  ended_charge _ _ := rfl
  ended_rewindPc _ := rfl
  count_setR _ _ := rfl
  count_charge _ _ := rfl
  count_succ s h := by
    have hbc := State.bc_ne_zero_of_not_cpEnded h
    rw [State.cpStep_bc] at hbc ⊢
    exact iterations16_pred hbc

theorem inStep_repeatTurn (carry : Bool) (dir : BlockDir) :
    RepeatTurn (·.inStep carry dir) State.ioEnded (iterations8 ·.b) where
  toRepeatBody := inStep_repeatBody carry dir
  body_charge _ _ := rfl
  ended_charge _ _ := rfl
  ended_rewindPc _ := rfl
  count_setR _ _ := rfl
  count_charge _ _ := rfl
  count_succ _ h := iterations8_pred (State.b_ne_zero_of_not_ioEnded h)

theorem outStep_repeatTurn (carry : Bool) (dir : BlockDir) :
    RepeatTurn (·.outStep carry dir) State.ioEnded (iterations8 ·.b) where
  toRepeatBody := outStep_repeatBody carry dir
  body_charge _ _ := rfl
  ended_charge _ _ := rfl
  ended_rewindPc _ := rfl
  count_setR _ _ := rfl
  count_charge _ _ := rfl
  count_succ _ h := iterations8_pred (State.b_ne_zero_of_not_ioEnded h)

/-- The loop of a repeat form at the default setting, with as many iterations as its counter allows. -/
def repeatRun (body : State → State) (ended : State → Bool) (count : State → Nat) (s : State) : State :=
  repeatLoop blockCosts .doc body ended (count s) true 0 s

section RepeatTurn
variable {body : State → State} {ended : State → Bool} {count : State → Nat}

theorem RepeatBody.r (hb : RepeatBody body ended count) (s : State) : (body s).r = s.r :=
  (congrArg State.r (hb.body_setR s s.r) :)

theorem RepeatBody.body_incR (hb : RepeatBody body ended count) (s : State) (n : Nat) : body (s.incR n) = (body s).incR n := by
  have hset : body (s.incR n) = (body s).setR (bumpR s.r n) := hb.body_setR s (bumpR s.r n)
  rw [hset, ← hb.r]
  rfl

theorem RepeatTurn.body_tick (hb : RepeatTurn body ended count) (s : State) (m n : Nat) :
    body (s.tick m n) = (body s).tick m n := by
  rw [State.tick, hb.body_charge, hb.body_incR]
  rfl

theorem RepeatTurn.ended_tick (hb : RepeatTurn body ended count) (s : State) (m n : Nat) : ended (s.tick m n) = ended s :=
  (hb.ended_charge _ n).trans (hb.ended_setR s (bumpR s.r m))

theorem RepeatTurn.count_tick (hb : RepeatTurn body ended count) (s : State) (m n : Nat) : count (s.tick m n) = count s :=
  (hb.count_charge _ n).trans (hb.count_setR s (bumpR s.r m))

/-- One turn of the loop in terms of the iteration alone. -/
theorem repeatLoop_turn (hb : RepeatTurn body ended count) (fuel total : Nat) (first : Bool) (s : State) :
    repeatLoop blockCosts .doc body ended (fuel + 1) first total s =
      if ended (body s) then (body s).tick 1 (total + 16)
      else if 0 ≤ s.budget + ((total + 21 : Nat) : Int) then (body s).rewindPc.tick 1 (total + 21)
      else repeatLoop blockCosts .doc body ended fuel false (total + 21) ((body s).incR 1) := by
  have hsame : s.setR s.r = s := rfl
  have hloop := repeatLoop_succ_setR hb.toRepeatBody .doc fuel total first s s.r
  rw [hsame, hb.budget, ← hb.r] at hloop
  exact hloop

/-- Cycles of earlier iterations count as if they had been charged before. -/
theorem repeatLoop_charge (hb : RepeatTurn body ended count) (fuel : Nat) :
    ∀ (total m : Nat) (first first' : Bool) (s : State),
      repeatLoop blockCosts .doc body ended fuel first (m + total) s =
        repeatLoop blockCosts .doc body ended fuel first' total (s.charge m) := by
  induction fuel with
  | zero => exact fun total m _ _ s => (s.charge_charge m total).symm
  | succ fuel ih =>
    intro total m first first' s
    have hbudget : s.budget + ((m + (total + 21) : Nat) : Int) = (s.charge m).budget + ((total + 21 : Nat) : Int) := by
      rw [State.charge_budget, Nat.cast_add, Int.add_assoc]
    rw [repeatLoop_turn hb, repeatLoop_turn hb, hb.body_charge, hb.ended_charge, Nat.add_assoc, Nat.add_assoc, hbudget,
      ih (total + 21) m false false, ← (body s).charge_tick m, ← (body s).rewindPc.charge_tick m]
    rfl

/-- A repeat form is one iteration, and then its end, the checkpoint or the same form again. -/
theorem repeatRun_eq (hb : RepeatTurn body ended count) (s : State) :
    repeatRun body ended count s =
      if ended (body s) then (body s).tick 1 16
      else if 0 ≤ s.budget + 21 then (body s).rewindPc.tick 1 21
      else repeatRun body ended count ((body s).tick 1 21) := by
  obtain ⟨fuel, hfuel⟩ := Nat.exists_eq_add_of_lt (hb.count_pos s)
  rw [Nat.zero_add] at hfuel
  rw [repeatRun, hfuel, repeatLoop_turn hb, Nat.zero_add, Nat.zero_add]
  cases hend : ended (body s)
  case true => rfl
  case false =>
    have hcount : count ((body s).tick 1 21) = fuel := by
      have hsucc := hb.count_succ s hend
      rw [hb.count_tick]
      omega
    rw [repeatRun, hcount, repeatLoop_charge hb fuel 0 21 false true]
    rfl

/-- The loop ends where its test holds, with PC where it was, or at the checkpoint, with PC on the first byte (D8). -/
theorem repeatRun_stops (hb : RepeatTurn body ended count) (s : State) :
    let t := repeatRun body ended count s
    s.budget < t.budget ∧
      (ended t = true ∧ t.pc = s.pc ∨ ended t = false ∧ t.pc = s.pc - 2 ∧ 0 ≤ t.budget) := by
  induction hn : count s using Nat.strong_induction_on generalizing s with
  | _ n ih =>
    have hpc := hb.pc s
    have hbudget := hb.budget s
    dsimp only
    rw [repeatRun_eq hb]
    split
    case isTrue hend =>
      rw [State.tick_budget, hb.ended_tick]
      exact ⟨by omega, .inl ⟨hend, hpc⟩⟩
    case isFalse hend =>
      have hgo := Bool.eq_false_of_not_eq_true hend
      split
      case isTrue hcheck =>
        rw [State.tick_budget, State.rewindPc_budget, hb.ended_tick, hb.ended_rewindPc, State.tick_pc, State.rewindPc_pc, hpc]
        exact ⟨by omega, .inr ⟨hgo, rfl, by omega⟩⟩
      case isFalse =>
        have hsucc := hb.count_succ s hgo
        obtain ⟨hlt, hstop⟩ := ih _ (by rw [hb.count_tick]; omega) ((body s).tick 1 21) rfl
        rw [State.tick_budget] at hlt
        rw [State.tick_pc, hpc] at hstop
        exact ⟨by omega, hstop⟩

/-- Iterations that other iterations follow, with no checkpoint in the way, and the last one. -/
theorem repeatRun_iterate (hb : RepeatTurn body ended count) (k : Nat) :
    ∀ s : State, (∀ j < k, ended (body^[j + 1] s) = false) → ended (body^[k + 1] s) = true → s.budget + 21 * (k : Int) < 0 →
      repeatRun body ended count s = (body^[k + 1] s).tick (k + 1) (21 * k + 16) := by
  induction k with
  | zero =>
    intro s _ hend _
    have hlast : ended (body s) = true := hend
    rw [repeatRun_eq hb, if_pos hlast]
    rfl
  | succ k ih =>
    intro s hgo hend hbudget
    have hfirst : ended (body s) = false := hgo 0 (Nat.succ_pos k)
    have hcheck : ¬0 ≤ s.budget + 21 := by omega
    have hticked (n : Nat) : body^[n] ((body s).tick 1 21) = (body^[n + 1] s).tick 1 21 :=
      ((Function.Semiconj.iterate_right (f := (State.tick · 1 21)) fun u => (hb.body_tick u 1 21).symm) n (body s)).symm
    have hrest := ih ((body s).tick 1 21)
      (fun j hj => by rw [hticked, hb.ended_tick]; exact hgo (j + 1) (by omega))
      (by rw [hticked, hb.ended_tick]; exact hend)
      (by rw [State.tick_budget, hb.budget]; push_cast at hbudget ⊢; omega)
    rw [repeatRun_eq hb, if_neg (ne_true_of_eq_false hfirst), if_neg hcheck, hrest, hticked, State.tick_tick]
    congr 1 <;> ring

/-- What a repeat form does when it ends, at the checkpoint too: a change that neither looks at nor changes what the loop keeps, nor the
test for the end. -/
structure EndsWith (last : State → State) (ended : State → Bool) : Prop where
  pc : ∀ s, (last s).pc = s.pc
  budget : ∀ s, (last s).budget = s.budget
  tick : ∀ s m n, last (s.tick m n) = (last s).tick m n
  rewindPc : ∀ s, last s.rewindPc = (last s).rewindPc
  ended : ∀ s, ended (last s) = ended s

/-- `again` repeats the instruction `single`, whose meaning is `body`. -/
structure RepeatForm (again single : Instr) (body : State → State) (ended : State → Bool) (count : State → Nat)
    (last : State → State) : Prop where
  turn : RepeatTurn body ended count
  ends : EndsWith last ended
  exec_single : ∀ s, exec single s = .next ((body s).charge 16)
  exec_again : ∀ s, exec again s = .next (last (repeatRun body ended count s))

theorem RepeatForm.repeatsSingleStep {again single : Instr} {last : State → State}
    (h : RepeatForm again single body ended count last) (s : State) : RepeatsSingleStep s again single ended last := by
  have hsingle : exec single { s with r := bumpR s.r 1 } = .next ((body s).tick 1 16) :=
    (h.exec_single (s.incR 1)).trans (congrArg (Host.Outcome.next <| State.charge · 16) (h.turn.body_incR s 1))
  refine ⟨_, hsingle, ?_⟩
  rw [h.exec_again, repeatRun_eq h.turn, h.turn.ended_tick]
  split
  case isTrue => rfl
  case isFalse =>
    split
    case isTrue =>
      rw [h.ends.tick, h.ends.rewindPc, h.ends.tick, ← h.turn.pc s, ← h.turn.budget s, ← h.ends.pc, ← h.ends.budget]
      rfl
    case isFalse =>
      rw [← h.turn.budget s]
      exact (h.exec_again _).symm

theorem RepeatForm.completes {again single : Instr} {last : State → State}
    (h : RepeatForm again single body ended count last) (s : State) :
    ∃ t, exec again s = .next t ∧ s.budget < t.budget ∧
      (ended t = true ∧ t.pc = s.pc ∨ ended t = false ∧ t.pc = s.pc - 2 ∧ 0 ≤ t.budget) := by
  refine ⟨_, h.exec_again s, ?_⟩
  rw [h.ends.pc, h.ends.budget, h.ends.ended]
  exact repeatRun_stops h.turn s

end RepeatTurn

theorem endsWith_id (ended : State → Bool) : EndsWith id ended where
  pc _ := rfl
  budget _ := rfl
  tick _ _ _ := rfl
  rewindPc _ := rfl
  ended _ := rfl

theorem State.setPvFromB_eq (s : State) : s.setPvFromB = s.setFlags { s.flags with pv := decide (s.b ≠ 0) } := by
  rw [State.setPvFromB, bne_eq_decide_ne]

theorem endsWith_setPvFromB : EndsWith State.setPvFromB State.ioEnded where
  pc _ := rfl
  budget _ := rfl
  tick _ _ _ := rfl
  rewindPc _ := rfl
  ended _ := rfl

theorem ldir_form : RepeatForm .ldir .ldi (·.ldStep .up) State.ldEnded (iterations16 ·.bc) id :=
  ⟨ldStep_repeatTurn .up, endsWith_id _, fun _ => rfl, fun _ => rfl⟩
theorem lddr_form : RepeatForm .lddr .ldd (·.ldStep .down) State.ldEnded (iterations16 ·.bc) id :=
  ⟨ldStep_repeatTurn .down, endsWith_id _, fun _ => rfl, fun _ => rfl⟩
theorem cpir_form : RepeatForm .cpir .cpi (·.cpStep .up) State.cpEnded (iterations16 ·.bc) id :=
  ⟨cpStep_repeatTurn .up, endsWith_id _, fun _ => rfl, fun _ => rfl⟩
theorem cpdr_form : RepeatForm .cpdr .cpd (·.cpStep .down) State.cpEnded (iterations16 ·.bc) id :=
  ⟨cpStep_repeatTurn .down, endsWith_id _, fun _ => rfl, fun _ => rfl⟩
theorem inir_form :
    RepeatForm .inir .ini (·.inStep Config.ioBlockCarry .up) State.ioEnded (iterations8 ·.b) State.setPvFromB :=
  ⟨inStep_repeatTurn _ .up, endsWith_setPvFromB, fun _ => rfl, fun _ => rfl⟩
theorem indr_form :
    RepeatForm .indr .ind (·.inStep Config.ioBlockCarry .down) State.ioEnded (iterations8 ·.b) State.setPvFromB :=
  ⟨inStep_repeatTurn _ .down, endsWith_setPvFromB, fun _ => rfl, fun _ => rfl⟩
theorem otir_form :
    RepeatForm .otir .outi (·.outStep Config.ioBlockCarry .up) State.ioEnded (iterations8 ·.b) State.setPvFromB :=
  ⟨outStep_repeatTurn _ .up, endsWith_setPvFromB, fun _ => rfl, fun _ => rfl⟩
theorem otdr_form :
    RepeatForm .otdr .outd (·.outStep Config.ioBlockCarry .down) State.ioEnded (iterations8 ·.b) State.setPvFromB :=
  ⟨outStep_repeatTurn _ .down, endsWith_setPvFromB, fun _ => rfl, fun _ => rfl⟩

/-! ## Many transfers (R309, R310) -/

/-- The state after `n` iterations of LDIR or LDDR, but for R and the budget. -/
def State.transferred (s : State) (dir : BlockDir) (n : Nat) : State := (·.ldStep dir)^[n] s

section
variable (s : State) (dir : BlockDir) (n : Nat)

theorem State.transferred_succ : s.transferred dir (n + 1) = (s.transferred dir n).ldStep dir :=
  Function.iterate_succ_apply' ..

theorem State.transferred_hl : (s.transferred dir n).hl = dir.ahead s.hl n :=
  (Function.Semiconj.iterate_right (fun u : State => u.ldStep_hl dir) n s).trans (dir.iterate_move s.hl n)

theorem State.transferred_de : (s.transferred dir n).de = dir.ahead s.de n :=
  (Function.Semiconj.iterate_right (fun u : State => u.ldStep_de dir) n s).trans (dir.iterate_move s.de n)

theorem State.transferred_bc : (s.transferred dir n).bc = BlockDir.down.ahead s.bc n :=
  (Function.Semiconj.iterate_right (gb := BlockDir.down.move) (fun u : State => u.ldStep_bc dir) n s).trans
    (BlockDir.down.iterate_move s.bc n)

theorem State.transferred_frame :
    s.transferred dir n = { s with
      b := (s.transferred dir n).b, c := (s.transferred dir n).c, d := (s.transferred dir n).d, e := (s.transferred dir n).e
      h := (s.transferred dir n).h, l := (s.transferred dir n).l, f := (s.transferred dir n).f
      mem := (s.transferred dir n).mem } := by
  induction n with
  | zero => rfl
  | succ n ih =>
    rw [State.transferred_succ]
    generalize s.transferred dir n = u at ih ⊢
    rw [ih]
    rfl

/-- A transfer writes PV, H and N again, whatever the ones before it wrote. -/
theorem ldBlockFlags_transferred (bc : Word) : ldBlockFlags bc (s.transferred dir n).flags = ldBlockFlags bc s.flags := by
  induction n with
  | zero => rfl
  | succ n ih =>
    rw [State.transferred_succ, State.ldStep_flags, ← ih]
    rfl

theorem State.transferred_succ_f :
    (s.transferred dir (n + 1)).f = (ldBlockFlags (BlockDir.down.ahead s.bc (n + 1)) s.flags).toByte := by
  rw [← ldBlockFlags_transferred s dir n, ← s.transferred_bc dir (n + 1), State.transferred_succ, State.ldStep_bc]
  rfl

end

/-- Many transfers with what the loop does beside them: BC and F as given, HL and DE moved, R and the budget counted. -/
theorem State.transferred_tick_frame {s : State} {dir : BlockDir} {k : Nat} {bc : Word} {f : Byte}
    (hbc : (s.transferred dir k).bc = bc) (hf : (s.transferred dir k).f = f) (m n : Nat) :
    let t := (s.transferred dir k).tick m n
    t = { s with b := hiByte bc, c := loByte bc, d := t.d, e := t.e, h := t.h, l := t.l, f := f, r := bumpR s.r m
                 mem := t.mem, budget := s.budget + n } := by
  have hframe := s.transferred_frame dir k
  rw [← hbc, ← hf, State.hiByte_bc, State.loByte_bc]
  generalize s.transferred dir k = u at hframe ⊢
  rw [hframe]
  rfl

theorem MemCanonical.transferred {s : State} (h : MemCanonical s) (dir : BlockDir) (n : Nat) :
    MemCanonical (s.transferred dir n) := by
  induction n with
  | zero => exact h
  | succ n ih =>
    rw [State.transferred_succ]
    exact ih.writeByte (s.transferred dir n).de _

theorem State.readByte_transferred {s : State} (h : MemCanonical s) (dir : BlockDir) (n : Nat) :
    ∀ x : Word, (s.transferred dir n).readByte x = s.copied dir s.hl s.de n x := by
  induction n with
  | zero => exact fun _ => rfl
  | succ n ih =>
    intro x
    rw [State.transferred_succ, State.ldStep_stores (h.transferred dir n) dir x, State.transferred_de, State.transferred_hl, ih, ih]
    exact if_congr (and_congr_right fun hx => by rw [hx]) rfl rfl

/-! ## What a copied block reads (R309, R310) -/

section
variable {s : State} {dir : BlockDir} {src dst : Word}

theorem State.copied_of_ne {n : Nat} {x : Word} (h : ∀ k < n, x ≠ dir.ahead dst k) : s.copied dir src dst n x = s.readByte x := by
  induction n with
  | zero => rfl
  | succ n ih =>
    rw [State.copied, if_neg fun hx => h n (Nat.lt_succ_self n) hx.1]
    exact ih fun k hk => h k (Nat.lt_succ_of_lt hk)

/-- No iteration of a block of at most 65536 bytes stores to an address again, so that each byte stays as its iteration left it. -/
theorem State.copied_ahead {n k : Nat} (hn : n ≤ 65536) (hk : k < n) :
    s.copied dir src dst n (dir.ahead dst k) =
      if writable (dir.ahead dst k) = true then s.copied dir src dst k (dir.ahead src k) else s.readByte (dir.ahead dst k) := by
  induction n with
  | zero => cases hk
  | succ n ih =>
    rw [State.copied]
    by_cases hlast : k = n
    case pos =>
      subst hlast
      by_cases hw : writable (dir.ahead dst k) = true
      case pos => rw [if_pos ⟨rfl, hw⟩, if_pos hw]
      case neg =>
        rw [if_neg fun hx => hw hx.2, if_neg hw]
        exact State.copied_of_ne fun j hj h => hj.ne' (BlockDir.ahead_injective (by omega) (by omega) h)
    case neg =>
      rw [if_neg fun hx => hlast (BlockDir.ahead_injective (by omega) (by omega) hx.1)]
      exact ih (by omega) (by omega)

/-- Where no source byte is a destination byte, every source byte is read as it was. -/
theorem State.copied_disjoint {n k : Nat} (hn : n ≤ 65536) (hk : k < n)
    (hdisjoint : ∀ j k, j < n → k < n → dir.ahead src j ≠ dir.ahead dst k) :
    s.copied dir src dst n (dir.ahead dst k) =
      if writable (dir.ahead dst k) = true then s.readByte (dir.ahead src k) else s.readByte (dir.ahead dst k) := by
  rw [State.copied_ahead hn hk, State.copied_of_ne fun j hj => hdisjoint k j hk (hj.trans hk)]

/-- With the destination one ahead of the source, each iteration reads what the one before it stored. -/
theorem State.copied_one_ahead {n k : Nat} (hdst : dst = dir.ahead src 1) (hn : n ≤ 65536) (hk : k < n) :
    s.copied dir src dst n (dir.ahead dst k) = s.readByte src ∨ ∃ j ≤ k, writable (dir.ahead dst j) = false := by
  induction k generalizing n with
  | zero =>
    rw [State.copied_ahead hn hk, dir.ahead_zero src]
    cases hw : writable (dir.ahead dst 0)
    case true => exact .inl rfl
    case false => exact .inr ⟨0, Nat.le_refl 0, hw⟩
  | succ k ih =>
    have hnext : dir.ahead src (k + 1) = dir.ahead dst k := by rw [hdst, dir.ahead_ahead_one]
    rw [State.copied_ahead hn hk, hnext]
    cases hw : writable (dir.ahead dst (k + 1))
    case true =>
      obtain hread | ⟨j, hj, hreadOnly⟩ := ih (n := k + 1) (by omega) (Nat.lt_succ_self k)
      · exact .inl hread
      · exact .inr ⟨j, Nat.le_succ_of_le hj, hreadOnly⟩
    case false => exact .inr ⟨k + 1, Nat.le_refl _, hw⟩

end

/-! ## Many compares (R311, R312) -/

/-- The state after `n` iterations of CPIR or CPDR, but for R and the budget. -/
def State.compared (s : State) (dir : BlockDir) (n : Nat) : State := (·.cpStep dir)^[n] s

section
variable (s : State) (dir : BlockDir) (n : Nat)

theorem State.compared_succ : s.compared dir (n + 1) = (s.compared dir n).cpStep dir :=
  Function.iterate_succ_apply' ..

theorem State.compared_hl : (s.compared dir n).hl = dir.ahead s.hl n :=
  (Function.Semiconj.iterate_right (fun u : State => u.cpStep_hl dir) n s).trans (dir.iterate_move s.hl n)

theorem State.compared_bc : (s.compared dir n).bc = BlockDir.down.ahead s.bc n :=
  (Function.Semiconj.iterate_right (gb := BlockDir.down.move) (fun u : State => u.cpStep_bc dir) n s).trans
    (BlockDir.down.iterate_move s.bc n)

theorem State.compared_frame :
    s.compared dir n = { s with
      b := (s.compared dir n).b, c := (s.compared dir n).c, h := (s.compared dir n).h, l := (s.compared dir n).l
      f := (s.compared dir n).f } := by
  induction n with
  | zero => rfl
  | succ n ih =>
    rw [State.compared_succ]
    generalize s.compared dir n = u at ih ⊢
    rw [ih]
    rfl

theorem State.compared_carry : (s.compared dir n).flags.c = s.flags.c := by
  induction n with
  | zero => rfl
  | succ n ih =>
    rw [State.compared_succ, State.cpStep_flags, ← ih]
    rfl

/-- The flags are those of the last compare, with the first C. -/
theorem State.compared_succ_flags :
    (s.compared dir (n + 1)).flags =
      cpBlockFlags s.a (s.readByte (dir.ahead s.hl n)) (BlockDir.down.ahead s.bc (n + 1)) s.flags := by
  have ha : (s.compared dir n).a = s.a := (congrArg State.a (s.compared_frame dir n) :)
  have hmem : (s.compared dir n).mem = s.mem := (congrArg State.mem (s.compared_frame dir n) :)
  rw [State.compared_succ, State.cpStep_flags, ← State.cpStep_bc _ dir, ← State.compared_succ, State.compared_bc, ha,
    State.readByte_congr hmem, State.compared_hl, cpBlockFlags, State.compared_carry]
  rfl

theorem State.compared_succ_f :
    (s.compared dir (n + 1)).f =
      (cpBlockFlags s.a (s.readByte (dir.ahead s.hl n)) (BlockDir.down.ahead s.bc (n + 1)) s.flags).toByte := by
  rw [← State.compared_succ_flags]
  exact (Flags.toByte_ofByte _).symm

/-- The test after an iteration: the counter has run out, or the byte matches. -/
theorem State.cpEnded_compared_succ :
    (s.compared dir (n + 1)).cpEnded = true ↔
      BlockDir.down.ahead s.bc (n + 1) = 0 ∨ s.readByte (dir.ahead s.hl n) = s.a := by
  rw [State.cpEnded, State.compared_bc, State.compared_succ_flags]
  obtain ⟨⟨-, hz, -⟩, -⟩ :=
    cpBlockFlags_spec s.a (s.readByte (dir.ahead s.hl n)) (BlockDir.down.ahead s.bc (n + 1)) s.flags
  rw [hz, Bool.or_eq_true, beq_iff_eq, decide_eq_true_iff, sub_eq_zero, eq_comm (a := s.a)]

end

/-- Many compares with what the loop does beside them: BC and F as given, HL moved, R and the budget counted. -/
theorem State.compared_tick_frame {s : State} {dir : BlockDir} {k : Nat} {bc : Word} {f : Byte}
    (hbc : (s.compared dir k).bc = bc) (hf : (s.compared dir k).f = f) (m n : Nat) :
    let t := (s.compared dir k).tick m n
    t = { s with b := hiByte bc, c := loByte bc, h := t.h, l := t.l, f := f, r := bumpR s.r m, budget := s.budget + n } := by
  have hframe := s.compared_frame dir k
  rw [← hbc, ← hf, State.hiByte_bc, State.loByte_bc]
  generalize s.compared dir k = u at hframe ⊢
  rw [hframe]
  rfl

theorem exec_ldRepeat {i : Instr} {dir : BlockDir} (h : i = .ldir ∧ dir = .up ∨ i = .lddr ∧ dir = .down) (s : State) :
    exec i s = .next (repeatRun (·.ldStep dir) State.ldEnded (iterations16 ·.bc) s) := by
  obtain ⟨rfl, rfl⟩ | ⟨rfl, rfl⟩ := h
  · rfl
  · rfl

theorem exec_cpRepeat {i : Instr} {dir : BlockDir} (h : i = .cpir ∧ dir = .up ∨ i = .cpdr ∧ dir = .down) (s : State) :
    exec i s = .next (repeatRun (·.cpStep dir) State.cpEnded (iterations16 ·.bc) s) := by
  obtain ⟨rfl, rfl⟩ | ⟨rfl, rfl⟩ := h
  · rfl
  · rfl

/-! ## The obligations -/

/-- Settles O50: each form is one ldStep or cpStep (exec_ldStep, exec_cpStep), whose flags are those of the statement (ldBlockFlags_eq,
cpBlockFlags_spec). -/
theorem blockTransferAndCompareStep : Obligations.BlockTransferAndCompareStep := by
  unfold Obligations.BlockTransferAndCompareStep
  refine ⟨?transfer, ?compare⟩
  case transfer =>
    rintro s i dir _ hs hi rfl
    rw [← ldBlockFlags_eq, dir.ahead_one, dir.ahead_one]
    exact ⟨_, exec_ldStep hi s, rfl, s.ldStep_de dir, s.ldStep_hl dir, (State.ldStep_stores hs dir).congr rfl⟩
  case compare =>
    rintro s i dir _ _ hi rfl rfl
    rw [dir.ahead_one]
    exact ⟨_, _, exec_cpStep hi s, rfl, s.cpStep_hl dir, cpBlockFlags_spec ..⟩

/-- Settles O51: each form is one inStep or outStep (exec_inStep, exec_outStep); an input stores the byte it read (State.inStep_stores). -/
theorem blockPortStep : Obligations.BlockPortStep := by
  unfold Obligations.BlockPortStep
  rintro s dir _ _ _ hs rfl rfl rfl
  rw [← ioBlockFlags_eq, dir.ahead_one]
  refine ⟨?input, ?output⟩
  case input =>
    exact ⟨_, exec_inStep dir s, rfl, s.inStep_hl Config.ioBlockCarry dir, (State.inStep_stores hs Config.ioBlockCarry dir).congr rfl⟩
  case output => exact ⟨_, exec_outStep dir s, rfl, s.outStep_hl Config.ioBlockCarry dir⟩

/-- Settles O52: one turn of the loop is the single step and its end, the checkpoint or the form again (repeatRun_eq), in every form
(RepeatForm.repeatsSingleStep). -/
theorem repeatForms_repeatSingleSteps : Obligations.RepeatForms := by
  unfold Obligations.RepeatForms
  intro s
  refine ⟨ldir_form.repeatsSingleStep s, lddr_form.repeatsSingleStep s, cpir_form.repeatsSingleStep s,
    cpdr_form.repeatsSingleStep s, ?_⟩
  intro last
  have hlast : last = State.setPvFromB := funext fun t => t.setPvFromB_eq.symm
  rw [hlast]
  exact ⟨inir_form.repeatsSingleStep s, indr_form.repeatsSingleStep s, otir_form.repeatsSingleStep s, otdr_form.repeatsSingleStep s⟩

/-- Settles O53: the loop stops at its end or at the checkpoint, by induction on the counter (repeatRun_stops). -/
theorem repeatFormsEnd : Obligations.RepeatFormsEnd := by
  unfold Obligations.RepeatFormsEnd
  rintro s i _ (⟨rfl | rfl, rfl⟩ | ⟨rfl | rfl, rfl⟩ | ⟨rfl | rfl | rfl | rfl, rfl⟩)
  · exact ldir_form.completes s
  · exact lddr_form.completes s
  · exact cpir_form.completes s
  · exact cpdr_form.completes s
  · exact inir_form.completes s
  · exact indr_form.completes s
  · exact otir_form.completes s
  · exact otdr_form.completes s

/-- Settles O54: with no checkpoint in the way the loop is `n` transfers and one count of R and of the cycles (repeatRun_iterate). What they
leave in the registers is State.transferred_tick_frame, and in memory State.copied (State.readByte_transferred). -/
theorem ldirCopiesBlock : Obligations.LdirCopiesBlock := by
  unfold Obligations.LdirCopiesBlock
  rintro s i dir n _ _ hs hi hn hbudget rfl rfl
  have hcount : n = iterations16 s.bc := hn
  have hle : n ≤ 65536 := hcount ▸ iterations16_le s.bc
  obtain ⟨k, rfl⟩ : ∃ k, n = k + 1 := Nat.exists_eq_succ_of_ne_zero (hcount ▸ (iterations16_pos s.bc).ne')
  have hgo : ∀ j < k, (s.transferred dir (j + 1)).ldEnded = false := by
    intro j hj
    rw [State.ldEnded, State.transferred_bc, beq_eq_false_iff_ne, ne_eq, counter_eq_zero_iff (by omega) (by omega)]
    omega
  have hbc : (s.transferred dir (k + 1)).bc = 0 := by
    rw [State.transferred_bc, counter_eq_zero_iff (by omega) (by omega)]
    exact hcount
  have hexec := exec_ldRepeat hi s
  rw [repeatRun_iterate (ldStep_repeatTurn dir) k s hgo (beq_iff_eq.2 hbc) (by push_cast at hbudget; omega)] at hexec
  refine ⟨_, hexec, ?frame, s.transferred_hl dir (k + 1), s.transferred_de dir (k + 1), ?mem,
    fun hdisjoint => ⟨?copied, ?others⟩, ?replicated⟩
  case frame =>
    have hf := s.transferred_succ_f dir k
    rw [← State.transferred_bc, hbc, ldBlockFlags_eq] at hf
    have hcost : 21 * (((k + 1 : Nat) : Int) - 1) + 16 = ((21 * k + 16 : Nat) : Int) := by omega
    rw [hcost]
    exact State.transferred_tick_frame hbc hf (k + 1) (21 * k + 16)
  case mem => exact State.readByte_transferred hs dir (k + 1)
  case copied =>
    intro j hj
    exact (State.readByte_transferred hs dir (k + 1) _).trans (State.copied_disjoint hle hj hdisjoint)
  case others =>
    intro x hx
    exact (State.readByte_transferred hs dir (k + 1) x).trans (State.copied_of_ne hx)
  case replicated =>
    intro hdst j hj
    exact (State.copied_one_ahead hdst hle hj).imp_left ((State.readByte_transferred hs dir (k + 1) _).trans ·)

/-- Settles O55: no compare before the match ends the loop, and the matching one does (State.cpEnded_compared_succ), so that it is `k + 1`
compares (repeatRun_iterate), the last with equal operands (cpBlockFlags_self). -/
theorem cpirFindsFirstMatch : Obligations.CpirFindsFirstMatch := by
  unfold Obligations.CpirFindsFirstMatch
  rintro s i dir n k _ hi hn hk hmatch hfirst hbudget rfl
  have hcount : n = iterations16 s.bc := hn
  have hgo : ∀ j < k, (s.compared dir (j + 1)).cpEnded = false := by
    intro j hj
    rw [Bool.eq_false_iff, ne_eq, State.cpEnded_compared_succ, counter_eq_zero_iff (by omega) (by omega), not_or]
    exact ⟨by omega, hfirst j hj⟩
  have hend : (s.compared dir (k + 1)).cpEnded = true := (s.cpEnded_compared_succ dir k).2 (.inr hmatch)
  have hexec := exec_cpRepeat hi s
  rw [repeatRun_iterate (cpStep_repeatTurn dir) k s hgo hend hbudget] at hexec
  have hf := s.compared_succ_f dir k
  have hsame : s.readByte (dir.ahead s.hl k) = s.a := hmatch
  rw [hsame, cpBlockFlags_self] at hf
  exact ⟨_, hexec, State.compared_tick_frame (s.compared_bc dir (k + 1)) hf (k + 1) (21 * k + 16), s.compared_hl dir (k + 1)⟩

end Sys2Proof.Machine
end

section
/-! SUPPORT and PROOFS. The families 48_io_cpu_control.md, 60_exceptions.md and 70_reset_and_hazards.md: the port instructions, HALT and
the wait, the interrupt opportunity, the step, reset and the loader. Settles O5, O6, O8, O9, O12, O20 and O56 to O59. -/

namespace Sys2Proof.Machine

/-! ## The port instructions (48_io_cpu_control.md R325 to R330) -/

theorem inFlags_spec (v : Byte) (g : Flags) :
    Mirrors (inFlags v g) v ∧ (inFlags v g).h = false ∧ (inFlags v g).pv = evenParity v ∧ (inFlags v g).n = false ∧
      (inFlags v g).c = g.c :=
  ⟨.of_bits rfl rfl rfl rfl, rfl, parity_eq_evenParity v, rfl, rfl⟩

/-- A result's mirror flags and the other four determine all flags. -/
theorem Mirrors.flags_eq {g g' : Flags} {r : Byte} (h : Mirrors g r) (h' : Mirrors g' r) (hh : g.h = g'.h) (hpv : g.pv = g'.pv)
    (hn : g.n = g'.n) (hc : g.c = g'.c) : g = g' := by
  obtain ⟨hs, hz, h5, h3⟩ := h
  obtain ⟨hs', hz', h5', h3'⟩ := h'
  cases g
  cases g'
  exact (Flags.mk.injEq ..).mpr
    ⟨hs.trans hs'.symm, hz.trans hz'.symm, h5.trans h5'.symm, hh, h3.trans h3'.symm, hpv, hn, hc⟩

/-- What the statement says of the flags of IN determines them. -/
theorem eq_inFlags {g f : Flags} {v : Byte} (hmirrors : Mirrors g v) (hh : g.h = false) (hpv : g.pv = evenParity v)
    (hn : g.n = false) (hc : g.c = f.c) : g = inFlags v f := by
  obtain ⟨hmirrors', hh', hpv', hn', hc'⟩ := inFlags_spec v f
  exact hmirrors.flags_eq hmirrors' (hh.trans hh'.symm) (hpv.trans hpv'.symm) (hn.trans hn'.symm) (hc.trans hc'.symm)

/-! ## The loader (70_reset_and_hazards.md R382) -/

/-- After the loader's writes an address holds the last byte given for it. -/
theorem Memory.read_load (bytes : List (Word × Byte)) (x : Word) :
    ∀ {m : Memory}, m.wf = true →
      (m.load bytes).read x.toNat = ((bytes.reverse.find? fun p => p.1 == x).map fun p => p.2).getD (m.read x.toNat) := by
  induction bytes with
  | nil => exact fun _ => rfl
  | cons p rest ih =>
    intro m hm
    obtain ⟨k, v⟩ := p
    have hx : x.toNat = k.toNat ↔ k = x := BitVec.toNat_inj.trans eq_comm
    rw [Memory.load, ih (Memory.wf_write v k.isLt hm), Memory.read_write hm, List.reverse_cons, List.find?_append]
    simp only [hx]
    cases rest.reverse.find? fun p => p.1 == x with
    | some q => rfl
    | none =>
      by_cases hk : k = x
      · simp [hk]
      · simp [hk]

/-! ## HALT and the halted wait (60_exceptions.md R356, R357) -/

theorem exec_halt (s : State) :
    exec .halt s = .next { s with
      halted := true, r := bumpR s.r (waitSteps s.budget - 1), budget := s.budget + 4 * (waitSteps s.budget : Int) } := by
  have hcast : ((4 * waitSteps s.budget : Nat) : Int) = 4 * (waitSteps s.budget : Int) := Nat.cast_mul 4 _
  rw [← hcast]
  rfl

/-- Without IFF1 the opportunity is lost where there is one (R352). -/
theorem State.opportunity_of_not_iff1 {s : State} (h : s.iff1 = false) (P : Params) :
    s.opportunity P = { s with budget := if 0 ≤ s.budget then s.budget - Config.frameCycles else s.budget } := by
  obtain ⟨hb, ho⟩ | ⟨hb, -, ho⟩ | ⟨-, hi, -⟩ := s.opportunity_cases P
  · rw [ho, if_neg (by omega)]
  · rw [ho, if_pos hb]
  · exact absurd (h.symm.trans hi) Bool.false_ne_true

theorem State.opportunity_of_neg {s : State} (h : s.budget < 0) (P : Params) : s.opportunity P = s := by
  obtain ⟨-, ho⟩ | ⟨hb, -⟩ | ⟨hb, -⟩ := s.opportunity_cases P
  · exact ho
  · omega
  · omega

theorem State.opportunity_of_iff1 {s : State} (hb : 0 ≤ s.budget) (h : s.iff1 = true) (P : Params) :
    s.opportunity P =
      { s.acceptInterrupt P with budget := s.budget - ((Config.frameCycles : Int) - acceptCost s.im) } := by
  obtain ⟨hneg, -⟩ | ⟨-, hi, -⟩ | ⟨-, -, ho⟩ := s.opportunity_cases P
  · omega
  · exact absurd (hi.symm.trans h) Bool.false_ne_true
  · rw [ho, State.acceptInterrupt_budget]

/-! ## Acceptance (60_exceptions.md R353, R354) -/

theorem acceptCost_eq (m : IntMode) : (acceptCost m : Int) = if m = .mode2 then 19 else 13 := by
  cases m <;> rfl

/-- Acceptance wakes the core, pushes PC and clears the flip-flops; PC alone depends on the mode. -/
theorem State.acceptInterrupt_frame (s : State) (P : Params) :
    s.acceptInterrupt P = { s with
      halted := false, iff1 := false, iff2 := false, sp := s.sp - 2, pc := (s.acceptInterrupt P).pc
      mem := (s.acceptInterrupt P).mem } := by
  unfold State.acceptInterrupt
  dsimp only
  split <;> rfl

theorem State.acceptInterrupt_pc (s : State) (P : Params) :
    (s.acceptInterrupt P).pc =
      if s.im = .mode2 then (s.acceptInterrupt P).readWord (wordOf s.i P.vectorByte) else 0x0038 := by
  by_cases hm : s.im = .mode2
  case pos =>
    rw [if_pos hm, s.acceptInterrupt_pc_mode2 P hm]
    exact State.readWord_congr (s.acceptInterrupt_mem P).symm _
  case neg =>
    rw [if_neg hm]
    unfold State.acceptInterrupt
    dsimp only
    split
    · rfl
    · rfl
    · contradiction

/-! ## The decoded instruction and the step (60_exceptions.md R350) -/

theorem State.decodeAtPc_eq (s : State) :
    s.decodeAtPc =
      decodeBytes (s.readByte s.pc) (s.readByte (s.pc + 1)) (s.readByte (s.pc + 2)) (s.readByte (s.pc + 3)) := by
  rw [State.decodeAtPc, s.byteAhead_zero]
  rfl

theorem step_of_awake {s : State} (h : s.opportunity.halted = false) :
    step s = exec s.opportunity.decodeAtPc.instr s.opportunity.fetchNext := by
  obtain ⟨hhalted, -⟩ | ⟨-, hstep⟩ := step_cases s
  · exact absurd (h.symm.trans hhalted) Bool.false_ne_true
  · exact hstep

theorem step_of_halted {s : State} (h : s.opportunity.halted = true) : step s = .next s.opportunity.haltedWait := by
  obtain ⟨-, hstep⟩ | ⟨hawake, -⟩ := step_cases s
  · exact hstep
  · exact absurd (hawake.symm.trans h) Bool.false_ne_true

/-- The condition is on the second byte alone, since a lone prefix is one byte long (30_encoding.md R87). -/
theorem MayFollow.byteAhead_one {i : Instr} {s : State} (h : MayFollow i [s.byteAhead (encode i).length]) :
    MayFollow i [s.byteAhead 1] := by
  cases i
  case lonePrefixDd | lonePrefixFd => exact h
  all_goals trivial

/-- Memory that holds the encoding of a well-formed instruction from PC on decodes to it there. -/
theorem State.decodeAtPc_of_encode {s : State} {i : Instr} (hwf : i.wellFormed = true)
    (hbytes : ∀ k b, (encode i)[k]? = some b → s.byteAhead k = b)
    (hfollow : MayFollow i [s.byteAhead (encode i).length]) :
    s.decodeAtPc = ⟨i, (encode i).length, m1Fetches (encode i)⟩ := by
  have hprefix : encode i <+: (List.range 4).map s.byteAhead := by
    rw [List.prefix_iff_getElem?]
    intro k hk
    have hk4 : k < 4 := hk.trans_le (encode_length_bounds i).2
    rw [List.getElem?_map, List.getElem?_range hk4, Option.map_some, hbytes k _ (List.getElem?_eq_getElem hk)]
  exact decodeBytes_of_encode_prefix hwf hfollow.byteAhead_one hprefix

theorem exec_completes (i : Instr) (s : State) : Completes (exec i s) := by
  obtain ⟨t, ht, -⟩ := execWith_settingsFrame i s Params.default
  exact ⟨t, (execWith_default i s).symm.trans ht⟩

theorem step_completes (s : State) : Completes (step s) := by
  obtain ⟨-, hstep⟩ | ⟨-, hstep⟩ := step_cases s
  · exact ⟨_, hstep⟩
  · rw [hstep]
    exact exec_completes ..

theorem resetWith_budget_neg (w : ResetDraws) : (State.resetWith w).budget < 0 := by
  have hframe := le_frameCycles
  show -(Config.frameCycles : Int) < 0
  omega

/-! ## The obligations -/

/-- Settles O56: the byte read is the oracle's (State.portValue) and the flags of the statement are inFlags of it (eq_inFlags);
IN r,(C) leaves the other registers by State.setReg8_setFlags_frame. -/
theorem portInputAndOutput : Obligations.PortInputAndOutput := by
  unfold Obligations.PortInputAndOutput
  refine ⟨?input, fun s n q => ⟨rfl, rfl, rfl⟩⟩
  case input =>
    intro s n q v g hv hmirrors hh hpv hn hc
    obtain rfl := hv
    obtain rfl := eq_inFlags (f := s.flags) hmirrors hh hpv hn hc
    obtain ⟨hframe, hreg⟩ := (s.recordIn s.bc (s.portValue s.bc)).setReg8_setFlags_frame q (s.portValue s.bc)
      (inFlags (s.portValue s.bc) s.flags) 12
    exact ⟨rfl, ⟨_, rfl, hframe, hreg⟩, rfl⟩

/-- Settles O57: each meaning is one record update and its cost. -/
theorem cpuControl : Obligations.CpuControl := by
  unfold Obligations.CpuControl
  exact fun s op => ⟨rfl, rfl, rfl, rfl, rfl, rfl, rfl, rfl, rfl⟩

/-- Settles O58: HALT takes waitSteps of the budget (exec_halt), which end below 4 (waitSteps_bounds). With IFF1 clear the opportunity is
lost (State.opportunity_of_not_iff1), which leaves a negative budget and the core halted, so that the step is the wait (step_of_halted). -/
theorem haltWaits : Obligations.HaltWaits := by
  unfold Obligations.HaltWaits
  refine ⟨?halt, ?wait⟩
  case halt =>
    intro s hneg
    obtain ⟨hlow, hhigh⟩ := waitSteps_bounds hneg
    exact ⟨waitSteps s.budget, by omega, hlow, hhigh, exec_halt s⟩
  case wait =>
    rintro s b hhalted hiff hframe rfl
    have hopp := State.opportunity_of_not_iff1 hiff Params.default
    have hneg := (hframe.opportunity Params.default).2
    have hstep := step_of_halted (s := s) (by rw [hopp]; exact hhalted)
    rw [hopp] at hneg hstep
    obtain ⟨hlow, hhigh⟩ := waitSteps_bounds hneg
    exact ⟨_, hlow, hhigh, hstep⟩

/-- Settles O59: the opportunity is lost, not taken or accepted (State.opportunity_of_not_iff1, State.opportunity_of_neg,
State.opportunity_of_iff1); what acceptance leaves is State.acceptInterrupt_frame, State.acceptInterrupt_pc and the push. -/
theorem interruptOpportunity : Obligations.InterruptOpportunity := by
  unfold Obligations.InterruptOpportunity
  refine ⟨?accepted, fun P s => ⟨?lost, ?none⟩, fun s => ⟨rfl, rfl⟩⟩
  case accepted =>
    rintro P s _ hs hb hiff rfl
    have hframe := s.acceptInterrupt_frame P
    have hpc := s.acceptInterrupt_pc P
    have hstores := (State.stores_push16 hs s.pc).congr (s.acceptInterrupt_mem P)
    rw [State.opportunity_of_iff1 hb hiff, ← acceptCost_eq]
    refine ⟨?frame, hpc, hstores⟩
    generalize s.acceptInterrupt P = t at hframe ⊢
    rw [hframe]
  case lost =>
    intro hb hiff
    rw [State.opportunity_of_not_iff1 hiff, if_pos hb]
  case none => exact fun hb => State.opportunity_of_neg hb P

/-- Settles O12: every row completes under every setting of the parameters (execWith_settingsFrame), and a step is the wait or one
of them. -/
theorem nothingFaults : Obligations.NothingFaults := by
  unfold Obligations.NothingFaults
  exact ⟨step_completes, exec_completes⟩

/-- Settles O5: a step of an awake core is exec of what the decoder reads at PC (step_of_awake, State.decodeAtPc_eq). -/
theorem stepRunsDecodedInstruction : Obligations.StepRunsDecodedInstruction := by
  unfold Obligations.StepRunsDecodedInstruction
  rintro s _ _ rfl hawake rfl
  rw [← State.decodeAtPc_eq]
  exact step_of_awake hawake

/-- Settles O6: without an opportunity (State.opportunity_of_neg) the core is awake at PC, where the encoding decodes to its instruction
(State.decodeAtPc_of_encode). -/
theorem stepRunsEncodedInstruction : Obligations.StepRunsEncodedInstruction := by
  unfold Obligations.StepRunsEncodedInstruction
  intro s i hneg hawake hwf hbytes hfollow
  have hopp := State.opportunity_of_neg hneg Params.default
  have hstep := step_of_awake (s := s) (by rw [hopp]; exact hawake)
  rw [hopp, State.fetchNext, State.decodeAtPc_of_encode hwf hbytes hfollow] at hstep
  exact hstep

/-- Settles O8: the budget after reset is negative (resetWith_budget_neg), so that there is no opportunity. -/
theorem resetValues : Obligations.ResetValues := by
  unfold Obligations.ResetValues
  exact fun w => ⟨rfl, State.opportunity_of_neg (resetWith_budget_neg w) Params.default⟩

/-- Settles O9: the empty memory list is canonical, the budget stands at its lower bound, and both flip-flops are clear. -/
theorem resetMeetsInvariants : Obligations.ResetMeetsInvariants := by
  unfold Obligations.ResetMeetsInvariants
  intro w
  have hneg := resetWith_budget_neg w
  exact ⟨rfl, ⟨Int.le_refl _, by omega⟩, rfl⟩

/-- Settles O20: the registers are the record's, and an address reads the last byte loaded there (Memory.read_load). -/
theorem loaderEffect : Obligations.LoaderEffect := by
  unfold Obligations.LoaderEffect
  exact fun s w hs => ⟨rfl, fun x => Memory.read_load w.bytes x hs⟩

end Sys2Proof.Machine
end
